-- ==== Sys2Proof/Word.lean ====
section
/-!
DEFINITION. The two bit-vector types of the spec: the byte, the addressable unit of both index spaces
(`20_memory.md` R31), and the 32-bit command word (`30_encoding.md` R47).
-/

namespace Sys2Proof

/-- A byte, an integer 0 to 255 (R8, R31). -/
abbrev Byte := BitVec 8

/-- The command word `CMDW`, 32 bits (R47). -/
abbrev Word := BitVec 32

end Sys2Proof
end

