-- ==== Sys2Proof/Machine/Constants.lean ====
section
/-!
DEFINITION. The parameters whose values the source fixes, collected in one record so that a claim may name them
(`00_scope.md` R6), and the capacity of the output buffer (`10_state.md` R14, R19).
-/

namespace Sys2Proof.Machine

/-- The fixed part of the configuration record, one field per name of R6. -/
structure FixedParams where
  /-- `PREFIX[0..4]`: payload bytes 0 to 4. -/
  payloadPrefix : List Byte
  /-- `SEED5`: seed of payload byte 5. -/
  seed5 : Byte
  /-- `SEED7`: seed of payload byte 7. -/
  seed7 : Byte
  /-- `SEED9`: seed of payload byte 9. -/
  seed9 : Byte
  /-- `VS_MASK5`: the part of the vswing code that goes to byte 5. -/
  vsMask5 : Byte
  /-- `VS_MASK7`: the part of the vswing code that goes to byte 7. -/
  vsMask7 : Byte
  /-- `T_LOW_EXCL`: a temperature is in range only above it. -/
  tLowExcl : Int
  /-- `T_HIGH_EXCL`: and only below it. -/
  tHighExcl : Int
  /-- `T_BASE`: subtracted from the temperature in the temperature code. -/
  tBase : Int
  /-- `T_DEFAULT`: the fallback temperature. -/
  tDefault : Int
  /-- `TEMP_MASK`: the mask of the temperature code. -/
  tempMask : Byte
  /-- `BDCF_NUM`: numerator of the conversion factor. -/
  bdcfNum : Nat
  /-- `BDCF_DEN`: its denominator. -/
  bdcfDen : Nat
  /-- `PAYLOAD_LEN`: bytes in a payload frame. -/
  payloadLen : Nat
  /-- `BITS_PER_BYTE`: bit positions per payload byte. -/
  bitsPerByte : Nat
  /-- `CMD_TYPE`: envelope byte 0. -/
  cmdType : Byte
  /-- `REPEAT`: envelope byte 1. -/
  repeatCount : Byte
  /-- `LEN_ADJ`: added to the body's byte count to give the length field (C6). -/
  lenAdj : Nat
  /-- `TRAILER[0..1]`: the last two envelope bytes. -/
  trailer : List Byte
  /-- `DUR_ONE_BYTE_LIMIT`: a duration below it takes one byte. -/
  durOneByteLimit : Nat
deriving DecidableEq, Repr

/-- The values the source fixes (R6): the same for every configuration. -/
abbrev fixedParams : FixedParams where
  payloadPrefix := [0x52#8, 0xAE#8, 0xC3#8, 0x26#8, 0xD9#8]
  seed5 := 0x11#8
  seed7 := 0x07#8
  seed9 := 0x00#8
  vsMask5 := 0x02#8
  vsMask7 := 0x18#8
  tLowExcl := 17
  tHighExcl := 31
  tBase := 17
  tDefault := 24
  tempMask := 0xF0#8
  bdcfNum := 269
  bdcfDen := 8192
  payloadLen := 11
  bitsPerByte := 8
  cmdType := 0x26#8
  repeatCount := 0x00#8
  lenAdj := 4
  trailer := [0x0D#8, 0x05#8]
  durOneByteLimit := 256

/-- `ENV_MAX`, the capacity of the output buffer (R14, R19, D17). -/
def envMax : Nat := 362

end Sys2Proof.Machine
end

