-- ==== Sys2Proof/Command.lean ====
section
/-!
DEFINITION. The abstract command (`30_encoding.md` R46), the payload frame (R54) and one sample of the three input
ports (`10_state.md` R18). Value names stand in the order in which the source lists them.
-/

namespace Sys2Proof

/-- `power` (R46). -/
inductive Power where
  | off | on
deriving DecidableEq, Repr

/-- `mode` (R46). -/
inductive Mode where
  | auto | cool | dry | heat | fanOnly | maintenance
deriving DecidableEq, Repr

/-- `fan` (R46). -/
inductive Fan where
  | auto | low | mid | high | hiPower | econo
deriving DecidableEq, Repr

/-- `vswing`, the vertical louver (R46). -/
inductive VSwing where
  | swing | up | midUp | middle | midDown | down | stop
deriving DecidableEq, Repr

/-- `hswing`, the horizontal louver: one value only (R46, C4). -/
inductive HSwing where
  | stop
deriving DecidableEq, Repr

/-- `clean` (R46): the source lists `On` first. -/
inductive Clean where
  | on | off
deriving DecidableEq, Repr

/-- `CommandState` (R46): six enumerations and one integer. -/
structure CommandState where
  power : Power
  mode : Mode
  fan : Fan
  vswing : VSwing
  hswing : HSwing
  clean : Clean
  targetTemperature : Int
deriving DecidableEq, Repr

/-- `PayloadFrame` (R54): an ordered sequence of exactly `PAYLOAD_LEN` = 11 bytes. -/
abbrev PayloadFrame := Vector Byte Machine.fixedParams.payloadLen

/-- What the host drives on the three input ports at one sampling instant (R18). -/
structure PortSample where
  cmdw : Word
  start : Bool
  reset : Bool
deriving DecidableEq, Repr

end Sys2Proof
end

