-- ==== Sys2Proof/Machine/Operands.lean ====
section
/-!
DEFINITION. The operand forms of the command word: its fields (`30_encoding.md` R47), the selectors with the values
they name (R48), and the signed temperature (R49). There is no other operand form: no register, address or
immediate (R30, R49, R59).
-/

namespace Sys2Proof.Machine

/-- `P = CMDW[0]` (R47). -/
def fieldP (w : Word) : BitVec 1 := w.extractLsb' 0 1

/-- `M = CMDW[3:1]` (R47). -/
def fieldM (w : Word) : BitVec 3 := w.extractLsb' 1 3

/-- `F = CMDW[6:4]` (R47). -/
def fieldF (w : Word) : BitVec 3 := w.extractLsb' 4 3

/-- `V = CMDW[9:7]` (R47). -/
def fieldV (w : Word) : BitVec 3 := w.extractLsb' 7 3

/-- `H = CMDW[10]` (R47). -/
def fieldH (w : Word) : BitVec 1 := w.extractLsb' 10 1

/-- `C = CMDW[11]` (R47). -/
def fieldC (w : Word) : BitVec 1 := w.extractLsb' 11 1

/-- The reserved bits `r = CMDW[15:12]` (R47). -/
def fieldR (w : Word) : BitVec 4 := w.extractLsb' 12 4

/-- `T = CMDW[31:16]` (R47). -/
def fieldT (w : Word) : BitVec 16 := w.extractLsb' 16 16

/-- The `power` value a selector names (R48). -/
def powerAt (sel : BitVec 1) : Power := if sel = 0#1 then .off else .on

/-- The `mode` value a selector names (R48). Selectors 6 and 7 are reserved: `decodeCmdw` faults before it looks here (R50). -/
def modeAt (sel : BitVec 3) : Mode :=
  match sel.toNat with
  | 0 => .auto
  | 1 => .cool
  | 2 => .dry
  | 3 => .heat
  | 4 => .fanOnly
  | _ => .maintenance

/-- The `fan` value a selector names (R48). Selectors 6 and 7 are reserved: `decodeCmdw` faults before it looks here (R50). -/
def fanAt (sel : BitVec 3) : Fan :=
  match sel.toNat with
  | 0 => .auto
  | 1 => .low
  | 2 => .mid
  | 3 => .high
  | 4 => .hiPower
  | _ => .econo

/-- The `vswing` value a selector names (R48). Selector 7 is reserved: `decodeCmdw` faults before it looks here (R50). -/
def vswingAt (sel : BitVec 3) : VSwing :=
  match sel.toNat with
  | 0 => .swing
  | 1 => .up
  | 2 => .midUp
  | 3 => .middle
  | 4 => .midDown
  | 5 => .down
  | _ => .stop

/-- The `clean` value a selector names (R48): selector 0 is clean ON. -/
def cleanAt (sel : BitVec 1) : Clean := if sel = 0#1 then .on else .off

/-- `targetTemperature = sext_16(T)` (R49). -/
def temperatureAt (t : BitVec 16) : Int := t.toInt

/-- The selector of a `power` value (R48). -/
def powerSel : Power → BitVec 1
  | .off => 0#1
  | .on => 1#1

/-- The selector of a `mode` value (R48). -/
def modeSel : Mode → BitVec 3
  | .auto => 0#3
  | .cool => 1#3
  | .dry => 2#3
  | .heat => 3#3
  | .fanOnly => 4#3
  | .maintenance => 5#3

/-- The selector of a `fan` value (R48). -/
def fanSel : Fan → BitVec 3
  | .auto => 0#3
  | .low => 1#3
  | .mid => 2#3
  | .high => 3#3
  | .hiPower => 4#3
  | .econo => 5#3

/-- The selector of a `vswing` value (R48). -/
def vswingSel : VSwing → BitVec 3
  | .swing => 0#3
  | .up => 1#3
  | .midUp => 2#3
  | .middle => 3#3
  | .midDown => 4#3
  | .down => 5#3
  | .stop => 6#3

/-- The selector of an `hswing` value (R48). -/
def hswingSel : HSwing → BitVec 1
  | .stop => 0#1

/-- The selector of a `clean` value (R48). -/
def cleanSel : Clean → BitVec 1
  | .on => 0#1
  | .off => 1#1

/-- `T mod 65536` (R47). -/
def temperatureBits (t : Int) : BitVec 16 := BitVec.ofInt 16 t

/-- The word with the given fields, `P | M << 1 | F << 4 | V << 7 | H << 10 | C << 11 | (T mod 65536) << 16` (R47). -/
def wordOfFields (p : BitVec 1) (m f v : BitVec 3) (h c : BitVec 1) (t : BitVec 16) : Word :=
  p.setWidth 32 ||| (m.setWidth 32 <<< 1) ||| (f.setWidth 32 <<< 4) ||| (v.setWidth 32 <<< 7) |||
    (h.setWidth 32 <<< 10) ||| (c.setWidth 32 <<< 11) ||| (t.setWidth 32 <<< 16)

/-- The fields of a word read as a command (R50), meaningful where the word is legal. -/
def commandAt (w : Word) : CommandState where
  power := powerAt (fieldP w)
  mode := modeAt (fieldM w)
  fan := fanAt (fieldF w)
  vswing := vswingAt (fieldV w)
  hswing := .stop
  clean := cleanAt (fieldC w)
  targetTemperature := temperatureAt (fieldT w)

/-- `EncodeCMDW` (R47, R50): the command word of a command. -/
def encodeCmdw (c : CommandState) : Word :=
  wordOfFields (powerSel c.power) (modeSel c.mode) (fanSel c.fan) (vswingSel c.vswing) (hswingSel c.hswing)
    (cleanSel c.clean) (temperatureBits c.targetTemperature)

end Sys2Proof.Machine
end

