-- ==== Sys2Proof/Machine/Flags.lean ====
section
/-!
DEFINITION. The block has no flags or condition codes (`10_state.md` R17). What stands here is the nearest thing:
the five bits of `CAUSE` (R15) and the five tests of DecodeCMDW that set them (`30_encoding.md` R50).
-/

namespace Sys2Proof.Machine

/-- `CAUSE` bit 0, `bad_mode` (R15). -/
def badMode : BitVec 5 := 0x01#5

/-- `CAUSE` bit 1, `bad_fan` (R15). -/
def badFan : BitVec 5 := 0x02#5

/-- `CAUSE` bit 2, `bad_vswing` (R15). -/
def badVswing : BitVec 5 := 0x04#5

/-- `CAUSE` bit 3, `bad_hswing` (R15). -/
def badHswing : BitVec 5 := 0x08#5

/-- `CAUSE` bit 4, `bad_reserved` (R15). -/
def badReserved : BitVec 5 := 0x10#5

/-- The cause mask of a command word: all five tests are made (R50), so no part hides another (R144). -/
def causeOf (w : Word) : BitVec 5 :=
  (if 6 ≤ (fieldM w).toNat then badMode else 0#5) |||
    (if 6 ≤ (fieldF w).toNat then badFan else 0#5) |||
    (if (fieldV w).toNat = 7 then badVswing else 0#5) |||
    (if fieldH w = 1#1 then badHswing else 0#5) |||
    (if fieldR w ≠ 0#4 then badReserved else 0#5)

end Sys2Proof.Machine
end

