-- ==== Sys2Proof/Syntax.lean ====
section
/-!
DEFINITION. The instructions: one constructor per row of `spec/opcode_table.json`, in the table's order
(`30_encoding.md` R58). The block has two operations, ENCODE and RESET; every other row of the table is a way to READ
one ENCODE transaction: by the value of one field of its command word (format CMDW), or by the layout of its result
(formats PAYLOAD and ENVELOPE). So the rows overlap, and a command word has several readings (log entry 5).

Operands. A row that a legal command word matches carries the whole command, whose named field the row fixes. A row
of a reserved selector or of the reserved bits carries the whole command word, which names no command.
-/

namespace Sys2Proof

inductive Instr where
  /-- `ENCODE` of a legal command word (R126): ports `start = 1`, `reset = 0`. -/
  | encode (c : CommandState)
  /-- `RESET` (R127): port `reset = 1`, `start` and `cmdw` ignored. -/
  | reset
  /-- `ENCODE.reserved_bits` (R145): bits 15:12 of the command word are not 0. -/
  | encodeReservedBits (w : Word)
  /-- `ENCODE.power.Off` (R75): an ENCODE with `power = Off`. -/
  | encodePowerOff (c : CommandState)
  /-- `ENCODE.power.On` (R75): an ENCODE with `power = On`. -/
  | encodePowerOn (c : CommandState)
  /-- `ENCODE.mode.Auto` (R75): an ENCODE with `mode = Auto`. -/
  | encodeModeAuto (c : CommandState)
  /-- `ENCODE.mode.Cool` (R75): an ENCODE with `mode = Cool`. -/
  | encodeModeCool (c : CommandState)
  /-- `ENCODE.mode.Dry` (R75): an ENCODE with `mode = Dry`. -/
  | encodeModeDry (c : CommandState)
  /-- `ENCODE.mode.Heat` (R75): an ENCODE with `mode = Heat`. -/
  | encodeModeHeat (c : CommandState)
  /-- `ENCODE.mode.FanOnly` (R75): an ENCODE with `mode = FanOnly`. -/
  | encodeModeFanOnly (c : CommandState)
  /-- `ENCODE.mode.Maintenance` (R75): an ENCODE with `mode = Maintenance`. -/
  | encodeModeMaintenance (c : CommandState)
  /-- `ENCODE.mode.reserved6` (R145): the word names the reserved mode selector 6. -/
  | encodeModeReserved6 (w : Word)
  /-- `ENCODE.mode.reserved7` (R145): the word names the reserved mode selector 7. -/
  | encodeModeReserved7 (w : Word)
  /-- `ENCODE.fan.Auto` (R74): an ENCODE with `fan = Auto`. -/
  | encodeFanAuto (c : CommandState)
  /-- `ENCODE.fan.Low` (R74): an ENCODE with `fan = Low`. -/
  | encodeFanLow (c : CommandState)
  /-- `ENCODE.fan.Mid` (R74): an ENCODE with `fan = Mid`. -/
  | encodeFanMid (c : CommandState)
  /-- `ENCODE.fan.High` (R74): an ENCODE with `fan = High`. -/
  | encodeFanHigh (c : CommandState)
  /-- `ENCODE.fan.HiPower` (R74): an ENCODE with `fan = HiPower`. -/
  | encodeFanHiPower (c : CommandState)
  /-- `ENCODE.fan.Econo` (R74): an ENCODE with `fan = Econo`. -/
  | encodeFanEcono (c : CommandState)
  /-- `ENCODE.fan.reserved6` (R145): the word names the reserved fan selector 6. -/
  | encodeFanReserved6 (w : Word)
  /-- `ENCODE.fan.reserved7` (R145): the word names the reserved fan selector 7. -/
  | encodeFanReserved7 (w : Word)
  /-- `ENCODE.vswing.Swing` (R73): an ENCODE with `vswing = Swing`. -/
  | encodeVswingSwing (c : CommandState)
  /-- `ENCODE.vswing.Up` (R73): an ENCODE with `vswing = Up`. -/
  | encodeVswingUp (c : CommandState)
  /-- `ENCODE.vswing.MidUp` (R73): an ENCODE with `vswing = MidUp`. -/
  | encodeVswingMidUp (c : CommandState)
  /-- `ENCODE.vswing.Middle` (R73): an ENCODE with `vswing = Middle`. -/
  | encodeVswingMiddle (c : CommandState)
  /-- `ENCODE.vswing.MidDown` (R73): an ENCODE with `vswing = MidDown`. -/
  | encodeVswingMidDown (c : CommandState)
  /-- `ENCODE.vswing.Down` (R73): an ENCODE with `vswing = Down`. -/
  | encodeVswingDown (c : CommandState)
  /-- `ENCODE.vswing.Stop` (R73): an ENCODE with `vswing = Stop`. -/
  | encodeVswingStop (c : CommandState)
  /-- `ENCODE.vswing.reserved7` (R145): the word names the reserved vswing selector 7. -/
  | encodeVswingReserved7 (w : Word)
  /-- `ENCODE.hswing.Stop` (R73): an ENCODE with `hswing = Stop`. -/
  | encodeHswingStop (c : CommandState)
  /-- `ENCODE.hswing.reserved1` (R145): the word names the reserved hswing selector 1. -/
  | encodeHswingReserved1 (w : Word)
  /-- `ENCODE.clean.On` (R73): an ENCODE with `clean = On`. -/
  | encodeCleanOn (c : CommandState)
  /-- `ENCODE.clean.Off` (R73): an ENCODE with `clean = Off`. -/
  | encodeCleanOff (c : CommandState)
  /-- `ENCODE.temp.18` (R71): an ENCODE with `targetTemperature = 18`. -/
  | encodeTemp18 (c : CommandState)
  /-- `ENCODE.temp.19` (R71): an ENCODE with `targetTemperature = 19`. -/
  | encodeTemp19 (c : CommandState)
  /-- `ENCODE.temp.20` (R71): an ENCODE with `targetTemperature = 20`. -/
  | encodeTemp20 (c : CommandState)
  /-- `ENCODE.temp.21` (R71): an ENCODE with `targetTemperature = 21`. -/
  | encodeTemp21 (c : CommandState)
  /-- `ENCODE.temp.22` (R71): an ENCODE with `targetTemperature = 22`. -/
  | encodeTemp22 (c : CommandState)
  /-- `ENCODE.temp.23` (R71): an ENCODE with `targetTemperature = 23`. -/
  | encodeTemp23 (c : CommandState)
  /-- `ENCODE.temp.24` (R71): an ENCODE with `targetTemperature = 24`. -/
  | encodeTemp24 (c : CommandState)
  /-- `ENCODE.temp.25` (R71): an ENCODE with `targetTemperature = 25`. -/
  | encodeTemp25 (c : CommandState)
  /-- `ENCODE.temp.26` (R71): an ENCODE with `targetTemperature = 26`. -/
  | encodeTemp26 (c : CommandState)
  /-- `ENCODE.temp.27` (R71): an ENCODE with `targetTemperature = 27`. -/
  | encodeTemp27 (c : CommandState)
  /-- `ENCODE.temp.28` (R71): an ENCODE with `targetTemperature = 28`. -/
  | encodeTemp28 (c : CommandState)
  /-- `ENCODE.temp.29` (R71): an ENCODE with `targetTemperature = 29`. -/
  | encodeTemp29 (c : CommandState)
  /-- `ENCODE.temp.30` (R71): an ENCODE with `targetTemperature = 30`. -/
  | encodeTemp30 (c : CommandState)
  /-- `ENCODE.temp.fallback` (R71): an ENCODE whose temperature is outside 18 to 30. -/
  | encodeTempFallback (c : CommandState)
  /-- `PAYLOAD.frame` (R78): an ENCODE read by the layout of its payload frame. -/
  | payloadFrame (c : CommandState)
  /-- `ENVELOPE.frame` (R110): an ENCODE read by the layout of its envelope. -/
  | envelopeFrame (c : CommandState)
deriving DecidableEq, Repr

end Sys2Proof
end

