-- ==== Sys2Proof/WellFormed.lean ====
section
/-!
DEFINITION. Which instructions are well-formed: the command is one a command word can carry (`30_encoding.md` R49,
R50), and the operand has the field value that the row names (R58).
-/

namespace Sys2Proof

open Sys2Proof.Machine

/-- The temperature fits the 16-bit field `T`, so a command word can carry the command (R49, R50). -/
def CommandState.representable (c : CommandState) : Bool :=
  decide (-32768 ≤ c.targetTemperature) && decide (c.targetTemperature ≤ 32767)

/-- The temperature is in range (R71): both tests are strict. -/
def CommandState.inRange (c : CommandState) : Bool :=
  decide (17 < c.targetTemperature) && decide (c.targetTemperature < 31)

/-- The operand of a row is one that the row of `spec/opcode_table.json` describes. -/
def Instr.wellFormed : Instr → Bool
  | .encode c => c.representable
  | .reset => true
  | .encodeReservedBits w => decide (fieldR w ≠ 0#4)
  | .encodePowerOff c => c.representable && decide (c.power = .off)
  | .encodePowerOn c => c.representable && decide (c.power = .on)
  | .encodeModeAuto c => c.representable && decide (c.mode = .auto)
  | .encodeModeCool c => c.representable && decide (c.mode = .cool)
  | .encodeModeDry c => c.representable && decide (c.mode = .dry)
  | .encodeModeHeat c => c.representable && decide (c.mode = .heat)
  | .encodeModeFanOnly c => c.representable && decide (c.mode = .fanOnly)
  | .encodeModeMaintenance c => c.representable && decide (c.mode = .maintenance)
  | .encodeModeReserved6 w => decide (fieldM w = 6#3)
  | .encodeModeReserved7 w => decide (fieldM w = 7#3)
  | .encodeFanAuto c => c.representable && decide (c.fan = .auto)
  | .encodeFanLow c => c.representable && decide (c.fan = .low)
  | .encodeFanMid c => c.representable && decide (c.fan = .mid)
  | .encodeFanHigh c => c.representable && decide (c.fan = .high)
  | .encodeFanHiPower c => c.representable && decide (c.fan = .hiPower)
  | .encodeFanEcono c => c.representable && decide (c.fan = .econo)
  | .encodeFanReserved6 w => decide (fieldF w = 6#3)
  | .encodeFanReserved7 w => decide (fieldF w = 7#3)
  | .encodeVswingSwing c => c.representable && decide (c.vswing = .swing)
  | .encodeVswingUp c => c.representable && decide (c.vswing = .up)
  | .encodeVswingMidUp c => c.representable && decide (c.vswing = .midUp)
  | .encodeVswingMiddle c => c.representable && decide (c.vswing = .middle)
  | .encodeVswingMidDown c => c.representable && decide (c.vswing = .midDown)
  | .encodeVswingDown c => c.representable && decide (c.vswing = .down)
  | .encodeVswingStop c => c.representable && decide (c.vswing = .stop)
  | .encodeVswingReserved7 w => decide (fieldV w = 7#3)
  | .encodeHswingStop c => c.representable && decide (c.hswing = .stop)
  | .encodeHswingReserved1 w => decide (fieldH w = 1#1)
  | .encodeCleanOn c => c.representable && decide (c.clean = .on)
  | .encodeCleanOff c => c.representable && decide (c.clean = .off)
  | .encodeTemp18 c => decide (c.targetTemperature = 18)
  | .encodeTemp19 c => decide (c.targetTemperature = 19)
  | .encodeTemp20 c => decide (c.targetTemperature = 20)
  | .encodeTemp21 c => decide (c.targetTemperature = 21)
  | .encodeTemp22 c => decide (c.targetTemperature = 22)
  | .encodeTemp23 c => decide (c.targetTemperature = 23)
  | .encodeTemp24 c => decide (c.targetTemperature = 24)
  | .encodeTemp25 c => decide (c.targetTemperature = 25)
  | .encodeTemp26 c => decide (c.targetTemperature = 26)
  | .encodeTemp27 c => decide (c.targetTemperature = 27)
  | .encodeTemp28 c => decide (c.targetTemperature = 28)
  | .encodeTemp29 c => decide (c.targetTemperature = 29)
  | .encodeTemp30 c => decide (c.targetTemperature = 30)
  | .encodeTempFallback c => c.representable && !c.inRange
  | .payloadFrame c => c.representable
  | .envelopeFrame c => c.representable

end Sys2Proof
end

