-- ==== Sys2Proof/Decode.lean ====
section
/-!
DEFINITION. The decoder: DecodeCMDW (`30_encoding.md` R50), the readings of a command word in the opcode table (R58),
the operation the ports select (`43_transactions.md` R126, R127, R132), and then the encoder (R47, R50), written from
the same tables.
-/

namespace Sys2Proof

open Sys2Proof.Machine

/-- `DecodeCMDW` (R50): total; a non-zero cause is the fault `InvalidCommand`. -/
def decodeCmdw (w : Word) : Except (BitVec 5) CommandState :=
  if causeOf w ≠ 0#5 then .error (causeOf w) else .ok (commandAt w)

/-- The `power` row of a command (R48). -/
def powerRow (c : CommandState) : Instr :=
  match c.power with
  | .off => .encodePowerOff c
  | .on => .encodePowerOn c

/-- The `mode` row of a command (R48). -/
def modeRow (c : CommandState) : Instr :=
  match c.mode with
  | .auto => .encodeModeAuto c
  | .cool => .encodeModeCool c
  | .dry => .encodeModeDry c
  | .heat => .encodeModeHeat c
  | .fanOnly => .encodeModeFanOnly c
  | .maintenance => .encodeModeMaintenance c

/-- The `fan` row of a command (R48). -/
def fanRow (c : CommandState) : Instr :=
  match c.fan with
  | .auto => .encodeFanAuto c
  | .low => .encodeFanLow c
  | .mid => .encodeFanMid c
  | .high => .encodeFanHigh c
  | .hiPower => .encodeFanHiPower c
  | .econo => .encodeFanEcono c

/-- The `vswing` row of a command (R48). -/
def vswingRow (c : CommandState) : Instr :=
  match c.vswing with
  | .swing => .encodeVswingSwing c
  | .up => .encodeVswingUp c
  | .midUp => .encodeVswingMidUp c
  | .middle => .encodeVswingMiddle c
  | .midDown => .encodeVswingMidDown c
  | .down => .encodeVswingDown c
  | .stop => .encodeVswingStop c

/-- The `hswing` row of a command (R48): one value. -/
def hswingRow (c : CommandState) : Instr :=
  match c.hswing with
  | .stop => .encodeHswingStop c

/-- The `clean` row of a command (R48). -/
def cleanRow (c : CommandState) : Instr :=
  match c.clean with
  | .on => .encodeCleanOn c
  | .off => .encodeCleanOff c

/-- The temperature row of a command (R71): the fallback row applies when no other does. A negative temperature has
`toNat = 0` and falls back. -/
def tempRow (c : CommandState) : Instr :=
  match c.targetTemperature.toNat with
  | 18 => .encodeTemp18 c
  | 19 => .encodeTemp19 c
  | 20 => .encodeTemp20 c
  | 21 => .encodeTemp21 c
  | 22 => .encodeTemp22 c
  | 23 => .encodeTemp23 c
  | 24 => .encodeTemp24 c
  | 25 => .encodeTemp25 c
  | 26 => .encodeTemp26 c
  | 27 => .encodeTemp27 c
  | 28 => .encodeTemp28 c
  | 29 => .encodeTemp29 c
  | 30 => .encodeTemp30 c
  | _ => .encodeTempFallback c

/-- Every row of the table that reads a legal command word, ENCODE first (R58). -/
def commandRows (c : CommandState) : List Instr :=
  [.encode c, powerRow c, modeRow c, fanRow c, vswingRow c, hswingRow c, cleanRow c, tempRow c, .payloadFrame c,
    .envelopeFrame c]

/-- The reserved `mode` row that a word matches, if any (R51). -/
def reservedModeRows (w : Word) : List Instr :=
  match (fieldM w).toNat with
  | 6 => [.encodeModeReserved6 w]
  | 7 => [.encodeModeReserved7 w]
  | _ => []

/-- The reserved `fan` row that a word matches, if any (R51). -/
def reservedFanRows (w : Word) : List Instr :=
  match (fieldF w).toNat with
  | 6 => [.encodeFanReserved6 w]
  | 7 => [.encodeFanReserved7 w]
  | _ => []

/-- Every reserved row that a word matches, in the table's order (R51): empty exactly for a legal word. -/
def reservedRows (w : Word) : List Instr :=
  (if fieldR w ≠ 0#4 then [.encodeReservedBits w] else []) ++ reservedModeRows w ++ reservedFanRows w ++
    (if (fieldV w).toNat = 7 then [.encodeVswingReserved7 w] else []) ++
    (if fieldH w = 1#1 then [.encodeHswingReserved1 w] else [])

/-- All readings of a command word in the opcode table (R58): the reserved rows of an illegal word, else the rows of
its command. -/
def readings (w : Word) : List Instr :=
  match reservedRows w with
  | [] => commandRows (commandAt w)
  | i :: is => i :: is

/-- The instruction of a command word: its first reading in the table's order, ENCODE for a legal word. Total: every
32-bit word has one (R50). -/
def decodeWord (w : Word) : Instr :=
  match reservedRows w with
  | [] => .encode (commandAt w)
  | i :: _ => i

/-- What the ports select (R126, R127, R132): `reset` wins over `start`; with neither the block takes no step. -/
def decodePorts (p : PortSample) : Option Instr :=
  if p.reset then some .reset else if p.start then some (decodeWord p.cmdw) else none

/-- Why bits that are presented as an instruction are none. -/
inductive DecodeReject where
  /-- More than 32 bits: every command word is 32 bits (R59; log entry 7). Safe: nothing is executed. -/
  | widerThanCommandWord
deriving DecidableEq, Repr

/-- The instruction of `nbits` bits of a command word. Every command word is 32 bits (R59); that fewer bits have zeros
above them and that wider ones are rejected by name is the model's choice (log entry 7). -/
def decodeBits (nbits w : Nat) : Except DecodeReject Instr :=
  if 32 < nbits then .error .widerThanCommandWord else .ok (decodeWord (BitVec.ofNat 32 (w % 2 ^ nbits)))

/-- The instruction the decoder reads from a table word (`none` where it rejects). RESET is selected by a port and by
no word (R58). -/
def decodeTableWord (nbits w : Nat) : Option Instr :=
  match decodeBits nbits w with
  | .ok i => some i
  | .error _ => none

/-- The command word of a well-formed instruction (R47); RESET takes no word, and 0 stands on the port. -/
def encodeWord : Instr → Word
  | .encode c => encodeCmdw c
  | .reset => 0#32
  | .encodeReservedBits w => w
  | .encodePowerOff c => encodeCmdw { c with power := .off }
  | .encodePowerOn c => encodeCmdw { c with power := .on }
  | .encodeModeAuto c => encodeCmdw { c with mode := .auto }
  | .encodeModeCool c => encodeCmdw { c with mode := .cool }
  | .encodeModeDry c => encodeCmdw { c with mode := .dry }
  | .encodeModeHeat c => encodeCmdw { c with mode := .heat }
  | .encodeModeFanOnly c => encodeCmdw { c with mode := .fanOnly }
  | .encodeModeMaintenance c => encodeCmdw { c with mode := .maintenance }
  | .encodeModeReserved6 w => w
  | .encodeModeReserved7 w => w
  | .encodeFanAuto c => encodeCmdw { c with fan := .auto }
  | .encodeFanLow c => encodeCmdw { c with fan := .low }
  | .encodeFanMid c => encodeCmdw { c with fan := .mid }
  | .encodeFanHigh c => encodeCmdw { c with fan := .high }
  | .encodeFanHiPower c => encodeCmdw { c with fan := .hiPower }
  | .encodeFanEcono c => encodeCmdw { c with fan := .econo }
  | .encodeFanReserved6 w => w
  | .encodeFanReserved7 w => w
  | .encodeVswingSwing c => encodeCmdw { c with vswing := .swing }
  | .encodeVswingUp c => encodeCmdw { c with vswing := .up }
  | .encodeVswingMidUp c => encodeCmdw { c with vswing := .midUp }
  | .encodeVswingMiddle c => encodeCmdw { c with vswing := .middle }
  | .encodeVswingMidDown c => encodeCmdw { c with vswing := .midDown }
  | .encodeVswingDown c => encodeCmdw { c with vswing := .down }
  | .encodeVswingStop c => encodeCmdw { c with vswing := .stop }
  | .encodeVswingReserved7 w => w
  | .encodeHswingStop c => encodeCmdw { c with hswing := .stop }
  | .encodeHswingReserved1 w => w
  | .encodeCleanOn c => encodeCmdw { c with clean := .on }
  | .encodeCleanOff c => encodeCmdw { c with clean := .off }
  | .encodeTemp18 c => encodeCmdw { c with targetTemperature := 18 }
  | .encodeTemp19 c => encodeCmdw { c with targetTemperature := 19 }
  | .encodeTemp20 c => encodeCmdw { c with targetTemperature := 20 }
  | .encodeTemp21 c => encodeCmdw { c with targetTemperature := 21 }
  | .encodeTemp22 c => encodeCmdw { c with targetTemperature := 22 }
  | .encodeTemp23 c => encodeCmdw { c with targetTemperature := 23 }
  | .encodeTemp24 c => encodeCmdw { c with targetTemperature := 24 }
  | .encodeTemp25 c => encodeCmdw { c with targetTemperature := 25 }
  | .encodeTemp26 c => encodeCmdw { c with targetTemperature := 26 }
  | .encodeTemp27 c => encodeCmdw { c with targetTemperature := 27 }
  | .encodeTemp28 c => encodeCmdw { c with targetTemperature := 28 }
  | .encodeTemp29 c => encodeCmdw { c with targetTemperature := 29 }
  | .encodeTemp30 c => encodeCmdw { c with targetTemperature := 30 }
  | .encodeTempFallback c => encodeCmdw c
  | .payloadFrame c => encodeCmdw c
  | .envelopeFrame c => encodeCmdw c

/-- What the host drives on the ports to have an instruction performed (R126, R127). -/
def encodePorts (i : Instr) : PortSample where
  cmdw := encodeWord i
  start := decide (i ≠ .reset)
  reset := decide (i = .reset)

/-- How a row of the table tests a command word. -/
inductive RowTest where
  /-- The bits under the mask have the row's match value. -/
  | masked (mask value : Word)
  /-- Some bit under the mask is 1. -/
  | nonzero (mask : Word)
  /-- The row tests no bit of the command word. -/
  | always
deriving DecidableEq, Repr

/-- The test on a word. -/
def RowTest.holds : RowTest → Word → Bool
  | .masked mask value, w => decide (w &&& mask = value)
  | .nonzero mask, w => decide (w &&& mask ≠ 0#32)
  | .always, _ => true

/-- The mask and match of each row, as `spec/opcode_table.json` gives them. -/
def rowTest : Instr → RowTest
  | .encode _ => .masked 0x0000F000#32 0x00000000#32
  | .reset => .always
  | .encodeReservedBits _ => .nonzero 0x0000F000#32
  | .encodePowerOff _ => .masked 0x00000001#32 0x00000000#32
  | .encodePowerOn _ => .masked 0x00000001#32 0x00000001#32
  | .encodeModeAuto _ => .masked 0x0000000E#32 0x00000000#32
  | .encodeModeCool _ => .masked 0x0000000E#32 0x00000002#32
  | .encodeModeDry _ => .masked 0x0000000E#32 0x00000004#32
  | .encodeModeHeat _ => .masked 0x0000000E#32 0x00000006#32
  | .encodeModeFanOnly _ => .masked 0x0000000E#32 0x00000008#32
  | .encodeModeMaintenance _ => .masked 0x0000000E#32 0x0000000A#32
  | .encodeModeReserved6 _ => .masked 0x0000000E#32 0x0000000C#32
  | .encodeModeReserved7 _ => .masked 0x0000000E#32 0x0000000E#32
  | .encodeFanAuto _ => .masked 0x00000070#32 0x00000000#32
  | .encodeFanLow _ => .masked 0x00000070#32 0x00000010#32
  | .encodeFanMid _ => .masked 0x00000070#32 0x00000020#32
  | .encodeFanHigh _ => .masked 0x00000070#32 0x00000030#32
  | .encodeFanHiPower _ => .masked 0x00000070#32 0x00000040#32
  | .encodeFanEcono _ => .masked 0x00000070#32 0x00000050#32
  | .encodeFanReserved6 _ => .masked 0x00000070#32 0x00000060#32
  | .encodeFanReserved7 _ => .masked 0x00000070#32 0x00000070#32
  | .encodeVswingSwing _ => .masked 0x00000380#32 0x00000000#32
  | .encodeVswingUp _ => .masked 0x00000380#32 0x00000080#32
  | .encodeVswingMidUp _ => .masked 0x00000380#32 0x00000100#32
  | .encodeVswingMiddle _ => .masked 0x00000380#32 0x00000180#32
  | .encodeVswingMidDown _ => .masked 0x00000380#32 0x00000200#32
  | .encodeVswingDown _ => .masked 0x00000380#32 0x00000280#32
  | .encodeVswingStop _ => .masked 0x00000380#32 0x00000300#32
  | .encodeVswingReserved7 _ => .masked 0x00000380#32 0x00000380#32
  | .encodeHswingStop _ => .masked 0x00000400#32 0x00000000#32
  | .encodeHswingReserved1 _ => .masked 0x00000400#32 0x00000400#32
  | .encodeCleanOn _ => .masked 0x00000800#32 0x00000000#32
  | .encodeCleanOff _ => .masked 0x00000800#32 0x00000800#32
  | .encodeTemp18 _ => .masked 0xFFFF0000#32 0x00120000#32
  | .encodeTemp19 _ => .masked 0xFFFF0000#32 0x00130000#32
  | .encodeTemp20 _ => .masked 0xFFFF0000#32 0x00140000#32
  | .encodeTemp21 _ => .masked 0xFFFF0000#32 0x00150000#32
  | .encodeTemp22 _ => .masked 0xFFFF0000#32 0x00160000#32
  | .encodeTemp23 _ => .masked 0xFFFF0000#32 0x00170000#32
  | .encodeTemp24 _ => .masked 0xFFFF0000#32 0x00180000#32
  | .encodeTemp25 _ => .masked 0xFFFF0000#32 0x00190000#32
  | .encodeTemp26 _ => .masked 0xFFFF0000#32 0x001A0000#32
  | .encodeTemp27 _ => .masked 0xFFFF0000#32 0x001B0000#32
  | .encodeTemp28 _ => .masked 0xFFFF0000#32 0x001C0000#32
  | .encodeTemp29 _ => .masked 0xFFFF0000#32 0x001D0000#32
  | .encodeTemp30 _ => .masked 0xFFFF0000#32 0x001E0000#32
  | .encodeTempFallback _ => .always
  | .payloadFrame _ => .always
  | .envelopeFrame _ => .always

end Sys2Proof
end

