-- ==== Sys2Proof/Machine/Scaling.lean ====
section
/-!
DEFINITION. `PE.SCALE`, microseconds to duration units (`41_pulse_encoder.md` R91). It stands apart from the other
operations of the PulseEncoder because the constraints on the configuration are stated with it (R92).
-/

namespace Sys2Proof.Machine

/-- `PE.SCALE(u) = ceil(u * 269 / 8192)` (R91): exact integer arithmetic, an exact quotient is not raised (D20). -/
def peScale (u : Nat) : Nat := (u * fixedParams.bdcfNum + (fixedParams.bdcfDen - 1)) / fixedParams.bdcfDen

end Sys2Proof.Machine
end

