-- ==== Sys2Proof/Config.lean ====
section
/-!
DEFINITION. The configuration record: the parameters the source fixes (`00_scope.md` R6), and as its fields (R7) the
24 byte codes and the five timing bases, which the source requires and does not print, with the constraints the source
does place on them (`30_encoding.md` R53, `41_pulse_encoder.md` R92, `42_frame_builder.md` R113). A `Config` is a
record that meets them: no other configuration is one of this hardware (R53, R92, R154).
-/

namespace Sys2Proof

open Sys2Proof.Machine

/-- `cfg.code`, the byte-code table, one field per `CODE_*` parameter (R52). -/
structure CodeTable where
  powerOff : Byte
  powerOn : Byte
  modeAuto : Byte
  modeCool : Byte
  modeDry : Byte
  modeHeat : Byte
  modeFanOnly : Byte
  modeMaintenance : Byte
  fanAuto : Byte
  fanLow : Byte
  fanMid : Byte
  fanHigh : Byte
  fanHiPower : Byte
  fanEcono : Byte
  vswingSwing : Byte
  vswingUp : Byte
  vswingMidUp : Byte
  vswingMiddle : Byte
  vswingMidDown : Byte
  vswingDown : Byte
  vswingStop : Byte
  hswingStop : Byte
  cleanOn : Byte
  cleanOff : Byte
deriving DecidableEq, Repr

/-- The parameters of a configuration: the code table (R52) and the five base constants `T_*` in microseconds (R92). -/
structure Params where
  code : CodeTable
  tHdrMark : Nat
  tHdrSpace : Nat
  tBitMark : Nat
  tOneSpace : Nat
  tZeroSpace : Nat
deriving DecidableEq, Repr

/-- The parameters the source fixes, named through a configuration: the same for all (R6; log entry 19). -/
def Params.fixed (_ : Params) : FixedParams := fixedParams

/-- Well-formed: all five scaled constants fit a two-byte item (R113, D11). -/
abbrev Params.WellFormed (p : Params) : Prop :=
  peScale p.tHdrMark ≤ 65535 ∧ peScale p.tHdrSpace ≤ 65535 ∧ peScale p.tBitMark ≤ 65535 ∧
    peScale p.tOneSpace ≤ 65535 ∧ peScale p.tZeroSpace ≤ 65535

/-- (Q1) to (Q3) of R53: what the source's example forces of the code table. -/
abbrev CodeTable.Conforming (c : CodeTable) : Prop :=
  fixedParams.seed5 ||| c.hswingStop ||| (c.vswingStop &&& fixedParams.vsMask5) ||| c.cleanOff = 0xFF#8 ∧
    fixedParams.seed7 ||| c.fanAuto ||| (c.vswingStop &&& fixedParams.vsMask7) = 0xFF#8 ∧
    fixedParams.seed9 ||| c.modeAuto ||| c.powerOff ||| 0x80#8 = 0x8F#8

/-- (T1) to (T3) of R92: what the source's example forces of the timing constants. -/
abbrev Params.TimingConforming (p : Params) : Prop :=
  peScale p.tHdrMark = 106 ∧ peScale p.tHdrSpace = 53 ∧
    peScale p.tBitMark < 256 ∧ peScale p.tOneSpace < 256 ∧ peScale p.tZeroSpace < 256

/-- A configuration of this hardware meets every constraint of the source (R53, R92). -/
abbrev Params.Conforming (p : Params) : Prop := p.code.Conforming ∧ p.TimingConforming

/-- The configuration type carries the conditions (R154): a record with the proof that it conforms. -/
abbrev Config := { p : Params // p.Conforming }

end Sys2Proof
end

