-- ==== Sys2Proof/Machine/PulseEncoder.lean ====
section
/-!
DEFINITION. The PulseEncoder, one payload byte and bit position to a mark and a space (`41_pulse_encoder.md`): one
definition per PE operation; `PE.SCALE` is `peScale` in `Machine/Scaling.lean`.
-/

namespace Sys2Proof.Machine

/-- `D_HDR_MARK` (R92). -/
def dHdrMark (p : Params) : Nat := peScale p.tHdrMark

/-- `D_HDR_SPACE` (R92). -/
def dHdrSpace (p : Params) : Nat := peScale p.tHdrSpace

/-- `D_BIT_MARK` (R92). -/
def dBitMark (p : Params) : Nat := peScale p.tBitMark

/-- `D_ONE_SPACE` (R92). -/
def dOneSpace (p : Params) : Nat := peScale p.tOneSpace

/-- `D_ZERO_SPACE` (R92). -/
def dZeroSpace (p : Params) : Nat := peScale p.tZeroSpace

/-- `PE.BIT(b, i)`: the mark of every bit, and the space of its value (R93). -/
def peBit (p : Params) (b : Byte) (i : Fin fixedParams.bitsPerByte) : Nat × Nat :=
  (dBitMark p, if b.getLsbD i.val then dOneSpace p else dZeroSpace p)

/-- The `BITS_PER_BYTE` bit positions of a byte in the order in which they leave: bit 0 first (R33). -/
def bitOrder : List (Fin fixedParams.bitsPerByte) := List.finRange fixedParams.bitsPerByte

/-- `PE.BYTE(b)`: 16 durations, mark then space for each bit, bit 0 first (R94). -/
def peByte (p : Params) (b : Byte) : List Nat :=
  bitOrder.flatMap fun i => [(peBit p b i).1, (peBit p b i).2]

/-- `PE.HDR()`: the header pulse pair (R95). -/
def peHdr (p : Params) : Nat × Nat := (dHdrMark p, dHdrSpace p)

end Sys2Proof.Machine
end

