-- ==== Sys2Proof/Machine/FrameBuilder.lean ====
section
/-!
DEFINITION. The FrameBuilder, payload to pulse train to envelope (`42_frame_builder.md`): one definition per FB
operation, each defined on every sequence of 11 bytes (R105).
-/

namespace Sys2Proof.Machine

/-- `FB.TRAIN(p)`: the header pair once, then each payload byte in index order (R106, R34). -/
def fbTrain (p : Params) (f : PayloadFrame) : List Nat :=
  [(peHdr p).1, (peHdr p).2] ++ f.toList.flatMap (peByte p)

/-- The position of the header mark in the train (R116). -/
def posHdrMark : Nat := 0

/-- The position of the header space (R116). -/
def posHdrSpace : Nat := 1

/-- `pos(k, i, mark)` (R116). -/
def posMark (k i : Nat) : Nat := 2 + 16 * k + 2 * i

/-- `pos(k, i, space)` (R116). -/
def posSpace (k i : Nat) : Nat := 3 + 16 * k + 2 * i

/-- `FB.DUR(v)`: one byte below 256, else two bytes, low byte first, with no marker (R107, R56). Its domain is
`v ≤ 65535` (R113). -/
def fbDur (v : Nat) : List Byte :=
  if v < fixedParams.durOneByteLimit then [BitVec.ofNat 8 v]
  else [BitVec.ofNat 8 v, BitVec.ofNat 8 (v >>> 8)]

/-- `sz(v)` (R107). -/
def fbSize (v : Nat) : Nat := if v < fixedParams.durOneByteLimit then 1 else 2

/-- `FB.BODY(d)`: the items in train order, nothing between them (R108). -/
def fbBody (d : List Nat) : List Byte := d.flatMap fbDur

/-- `FB.LEN(y)` (R109): a count of bytes, computed (R111). -/
def fbLen (y : List Byte) : Nat := y.length + fixedParams.lenAdj

/-- The layout of an envelope around its body (R36, R57): nothing but the trailer follows the body (R114). -/
def envelopeLayout (y : List Byte) : List Byte :=
  [fixedParams.cmdType, fixedParams.repeatCount, BitVec.ofNat 8 (fbLen y), BitVec.ofNat 8 (fbLen y >>> 8)] ++ y ++
    fixedParams.trailer

/-- `FB.ENV(p)` (R110). -/
def fbEnv (p : Params) (f : PayloadFrame) : List Byte := envelopeLayout (fbBody (fbTrain p f))

end Sys2Proof.Machine
end

