-- ==== Sys2Proof/Machine/Defaults.lean ====
section
/-!
DEFINITION. The default configuration by name (`00_scope.md` R7, D8, D9). PRESUMED: the spec gives these values
from general knowledge and not from its source (`93_implementation_defined.md` U1, U2); a claim that needs them says so.
-/

namespace Sys2Proof.Machine

/-- The default byte codes of R52 (U1). PRESUMED, unsafe. -/
def defaultCodes : CodeTable where
  powerOff := 0x08#8
  powerOn := 0x00#8
  modeAuto := 0x07#8
  modeCool := 0x06#8
  modeDry := 0x05#8
  modeHeat := 0x03#8
  modeFanOnly := 0x04#8
  modeMaintenance := 0x06#8
  fanAuto := 0xE0#8
  fanLow := 0xA0#8
  fanMid := 0x80#8
  fanHigh := 0x60#8
  fanHiPower := 0x40#8
  fanEcono := 0x00#8
  vswingSwing := 0x0A#8
  vswingUp := 0x02#8
  vswingMidUp := 0x18#8
  vswingMiddle := 0x10#8
  vswingMidDown := 0x08#8
  vswingDown := 0x00#8
  vswingStop := 0x1A#8
  hswingStop := 0xCC#8
  cleanOn := 0x00#8
  cleanOff := 0x20#8

/-- The default timing constants of R92 in microseconds (U2), with the default codes. PRESUMED, unsafe. -/
def defaultParams : Params where
  code := defaultCodes
  tHdrMark := 3200
  tHdrSpace := 1600
  tBitMark := 400
  tOneSpace := 400
  tZeroSpace := 1200

/-- The defaults meet the source's constraints (R53, R92). -/
theorem defaultParams_conforming : defaultParams.Conforming := by decide

/-- The default configuration (R7). PRESUMED, unsafe. -/
def defaultConfig : Config := ⟨defaultParams, defaultParams_conforming⟩

end Sys2Proof.Machine
end

