-- ==== Sys2Proof/Machine/State.lean ====
section
/-!
DEFINITION. The state of the block: its five latches (`10_state.md` R11), with the configuration it was made with
(`00_scope.md` R7) and the host's port samples that are still to come (R18, R133).
-/

namespace Sys2Proof.Machine

/-- `STATUS` (R15). Value 3 is never taken, so it has no constructor. -/
inductive Status where
  /-- 0: no result since reset. -/
  | idle
  /-- 1: the latches hold the result of the last ENCODE. -/
  | done
  /-- 2: the last ENCODE was refused; sticky until RESET. -/
  | fault
deriving DecidableEq, Repr

/-- Why a read by the host has no result. No step of the block raises one: InvalidCommand is an exception the block
takes (R145), a next state. -/
inductive Fault where
  /-- Raised by the host's read of a byte of `PAYLOAD` or `ENV` that holds no value (R13, R19, R163). Safe: a claim
  about a host that reads it is unprovable. -/
  | noValue
  /-- Raised by the host's read at an index outside 0 to 10 (`PAYLOAD`) or 0 to 361 (`ENV`), where no byte exists
  (R30). Safe: nothing is read. -/
  | noSuchIndex
deriving DecidableEq, Repr

/-- Why something is refused. -/
inductive Refusal where
  /-- Raised by an arm of `exec` for an instruction without a meaning; no arm does. Safe: nothing is claimed of it. -/
  | notModelled (mnemonic : String)
  /-- Raised by `configure` for parameters with a scaled duration above 65535 (R113, R154). Safe: there is no block
  to run. -/
  | illFormedConfiguration
  /-- Raised by `configure` for well-formed parameters that break a constraint of the source (R53, R92, R154). Safe:
  it is no configuration of this hardware. -/
  | nonConformingConfiguration
deriving DecidableEq, Repr

/-- The output buffer as a list of (index, byte) cells, indices strictly rising; an index that is not listed holds no
value (R19), so no byte is ever equal to what an unlisted index reads as. -/
abbrev Mem := List Host.Cell

/-- The state. The five latches are the spec's (R11); `cfg` and `inputs` are the model's own fields. -/
structure State where
  /-- The configuration: not a latch, and no operation writes it (R20 (a), R42; log entry 2). -/
  cfg : Config
  /-- `PAYLOAD[0..10]`: the frame, or no value (R13). -/
  payload : Option PayloadFrame
  /-- `ENV[0..361]` (R19). -/
  env : Mem
  /-- `ENV_LEN` (R14). -/
  envLen : BitVec 16
  /-- `STATUS` (R15). -/
  status : Status
  /-- `CAUSE` (R15). -/
  cause : BitVec 5
  /-- What the host will drive on the ports, one sample a step, oldest first (R18, R125; log entry 1). -/
  inputs : List PortSample
deriving DecidableEq, Repr

/-- The block at power-on with a given configuration, which is the state after reset (R21, R160). -/
def State.powerOn (cfg : Config) : State where
  cfg := cfg
  payload := none
  env := []
  envLen := 0#16
  status := .idle
  cause := 0#5
  inputs := []

/-- The machine right after reset (R21), with the default configuration (R7) and no input presented yet. -/
def State.reset : State := State.powerOn defaultConfig

end Sys2Proof.Machine
end

