-- ==== Sys2Proof/Machine/Ops.lean ====
section
/-!
DEFINITION. The named operations over memory and latches: MemRead and MemWrite (`00_scope.md` R8), writing a result
(`43_transactions.md` R126), taking the exception InvalidCommand (`60_exceptions.md` R145), leaving it by RESET (R146,
R127), sampling the ports (`10_state.md` R18) and making a block from parameters (R154).
-/

namespace Sys2Proof.Machine

/-- The canonical form: indices strictly rising. -/
def memSorted : Mem → Bool
  | [] => true
  | [_] => true
  | x :: y :: m => decide (x.1 < y.1) && memSorted (y :: m)

/-- The byte at an index; an unlisted index holds no value (R19). -/
def memByte (m : Mem) (a : Nat) : Option Byte :=
  match m with
  | [] => none
  | x :: m => if x.1 = a then some x.2 else memByte m a

/-- `MemWrite(a, 1, b)` (R8), in canonical form. -/
def memPut (a : Nat) (b : Byte) : Mem → Mem
  | [] => [(a, b)]
  | x :: m => if a < x.1 then (a, b) :: x :: m else if a = x.1 then (a, b) :: m else x :: memPut a b m

/-- `MemWrite` of a sequence of bytes at successive indices (R126). -/
def memPutAll (a : Nat) : List Byte → Mem → Mem
  | [], m => m
  | b :: bs, m => memPutAll (a + 1) bs (memPut a b m)

/-- `MemRead(a, n)`: the number in `n` bytes, least significant byte at `a` (R8, R32); none where a byte holds no
value. -/
def memRead (m : Mem) (a : Nat) : Nat → Option Nat
  | 0 => some 0
  | n + 1 =>
    match memByte m a, memRead m (a + 1) n with
    | some b, some r => some (b.toNat + 256 * r)
    | _, _ => none

/-- The writes of a completed ENCODE, all together (R126, R37): nothing of an earlier result remains (R19). -/
def commit (f : PayloadFrame) (e : List Byte) (s : State) : State :=
  { s with
    payload := some f
    env := memPutAll 0 e []
    envLen := BitVec.ofNat 16 e.length
    cause := 0#5
    status := .done }

/-- Taking the exception `InvalidCommand(cause)` (R145): the previous result is withdrawn, nothing is saved, and there
is no vector. -/
def takeInvalidCommand (cause : BitVec 5) (s : State) : State :=
  { s with
    payload := none
    env := []
    envLen := 0#16
    cause := cause
    status := .fault }

/-- The writes of RESET, the only way out of FAULT (R127, R21, R146). The configuration stays (R160). -/
def resetLatches (s : State) : State :=
  { s with
    payload := none
    env := []
    envLen := 0#16
    cause := 0#5
    status := .idle }

/-- An ENCODE has an effect only when `STATUS ≠ FAULT`; in FAULT every latch keeps its value (R132, R146). -/
def unlessFault (s next : State) : Host.Outcome State Fault Refusal :=
  if s.status = .fault then .next s else .next next

/-- The block samples the ports once and keeps no copy (R18): the oldest sample leaves the list. -/
def takeSample (s : State) : Option (PortSample × State) :=
  match s.inputs with
  | [] => none
  | p :: rest => some (p, { s with inputs := rest })

/-- The host presents a sample, to be taken by the very next step (R133). -/
def present (p : PortSample) (s : State) : State := { s with inputs := p :: s.inputs }

/-- The samples that present `nbits` bits of a command word with `start = 1`, the bits above them 0; more than 32 bits
are no command word (R59) and present nothing (log entry 7). -/
def samplesOfBits (nbits w : Nat) : List PortSample :=
  if 32 < nbits then [] else [⟨BitVec.ofNat 32 (w % 2 ^ nbits), true, false⟩]

/-- Parameters become a configuration, or are refused before there is a block to run (R113, R154). -/
def configure (p : Params) : Except Refusal Config :=
  if h : p.Conforming then .ok ⟨p, h⟩
  else if p.WellFormed then .error .nonConformingConfiguration
  else .error .illFormedConfiguration

end Sys2Proof.Machine
end

