-- ==== Sys2Proof/Machine/ParameterMapper.lean ====
section
/-!
DEFINITION. The ParameterMapper, command to 11-byte payload (`40_parameter_mapper.md`): one definition per PM
operation. Every function takes the parameters it reads, so that a claim can be about every configuration (R7).
-/

namespace Sys2Proof.Machine

/-- `code_power` (R83): a lookup, with no other input. -/
def codePower (t : CodeTable) : Power → Byte
  | .off => t.powerOff
  | .on => t.powerOn

/-- `code_mode` (R83). -/
def codeMode (t : CodeTable) : Mode → Byte
  | .auto => t.modeAuto
  | .cool => t.modeCool
  | .dry => t.modeDry
  | .heat => t.modeHeat
  | .fanOnly => t.modeFanOnly
  | .maintenance => t.modeMaintenance

/-- `code_fan` (R83). -/
def codeFan (t : CodeTable) : Fan → Byte
  | .auto => t.fanAuto
  | .low => t.fanLow
  | .mid => t.fanMid
  | .high => t.fanHigh
  | .hiPower => t.fanHiPower
  | .econo => t.fanEcono

/-- `code_vswing` (R83). -/
def codeVswing (t : CodeTable) : VSwing → Byte
  | .swing => t.vswingSwing
  | .up => t.vswingUp
  | .midUp => t.vswingMidUp
  | .middle => t.vswingMiddle
  | .midDown => t.vswingMidDown
  | .down => t.vswingDown
  | .stop => t.vswingStop

/-- `code_hswing` (R83). -/
def codeHswing (t : CodeTable) : HSwing → Byte
  | .stop => t.hswingStop

/-- `code_clean` (R83). -/
def codeClean (t : CodeTable) : Clean → Byte
  | .on => t.cleanOn
  | .off => t.cleanOff

/-- The temperature that is coded: `t` itself in range, else the default (R71). The test is on the whole integer,
before any narrowing (R82). -/
def effectiveTemp (t : Int) : Int :=
  if fixedParams.tLowExcl < t ∧ t < fixedParams.tHighExcl then t else fixedParams.tDefault

/-- `PM.TEMP(t) = (~((u - 17) << 4)) & 0xF0` (R71), with `~x = -x - 1` on the integer and the mask on bits 7:4 of its
two's complement. It is the temperature code of every mode (R72). -/
def pmTemp (t : Int) : Byte :=
  BitVec.ofInt 8 (-((effectiveTemp t - fixedParams.tBase) * 16) - 1) &&& fixedParams.tempMask

/-- `PM.B5` (R73). -/
def pmB5 (t : CodeTable) (c : CommandState) : Byte :=
  fixedParams.seed5 ||| codeHswing t c.hswing ||| (codeVswing t c.vswing &&& fixedParams.vsMask5) |||
    codeClean t c.clean

/-- `PM.B7` (R74). -/
def pmB7 (t : CodeTable) (c : CommandState) : Byte :=
  fixedParams.seed7 ||| codeFan t c.fan ||| (codeVswing t c.vswing &&& fixedParams.vsMask7)

/-- `PM.B9` (R75). -/
def pmB9 (t : CodeTable) (c : CommandState) : Byte :=
  fixedParams.seed9 ||| codeMode t c.mode ||| codePower t c.power ||| pmTemp c.targetTemperature

/-- `PM.CHK(x) = 255 - x`, the complement in 8 bits (R76, C1). -/
def pmChk (x : Byte) : Byte := 0xFF#8 - x

/-- The layout of a payload frame over its three data bytes (R54, R77, R78); `PM.PREFIX` stands in front. -/
def payloadLayout (b5 b7 b9 : Byte) : PayloadFrame :=
  ⟨(fixedParams.payloadPrefix ++ [b5, pmChk b5, b7, pmChk b7, b9, pmChk b9]).toArray, rfl⟩

/-- `PM.ENCODE` (R78): each data byte starts from its seed afresh (R20 (a)). -/
def pmEncode (t : CodeTable) (c : CommandState) : PayloadFrame :=
  payloadLayout (pmB5 t c) (pmB7 t c) (pmB9 t c)

end Sys2Proof.Machine
end

