-- ==== Sys2Proof/Machine/Transaction.lean ====
section
/-!
DEFINITION. The two ways an ENCODE transaction ends (`43_transactions.md` R126): with a result, or in the exception
InvalidCommand. Every ENCODE row of the table is one of the two.
-/

namespace Sys2Proof.Machine

/-- The payload the block gives a command (R126, R78). -/
def payloadOf (s : State) (c : CommandState) : PayloadFrame := pmEncode s.cfg.val.code c

/-- The envelope the block gives a command (R126, R110). -/
def envelopeOf (s : State) (c : CommandState) : List Byte := fbEnv s.cfg.val (payloadOf s c)

/-- `ENCODE` of a command: the pipeline PM then FB, and all latches written together (R126, R37). -/
def transact (c : CommandState) (s : State) : Host.Outcome State Fault Refusal :=
  unlessFault s (commit (payloadOf s c) (envelopeOf s c) s)

/-- `ENCODE` of a word that names no command: none of the writes of a result, and InvalidCommand instead (R126,
R145). -/
def rejectCommand (cause : BitVec 5) (s : State) : Host.Outcome State Fault Refusal :=
  unlessFault s (takeInvalidCommand cause s)

end Sys2Proof.Machine
end

