-- ==== Sys2Proof/Machine/FanRows.lean ====
section
/-!
DEFINITION. The `fan` rows of the table: an ENCODE whose code goes to byte 7.
-/

namespace Sys2Proof.Machine

/-- `ENCODE.fan.Auto`: `CODE_FAN_AUTO` goes to byte 7 (R74). -/
def execEncodeFanAuto (c : CommandState) (s : State) : Host.Outcome State Fault Refusal :=
  transact { c with fan := .auto } s

/-- `ENCODE.fan.Low`: `CODE_FAN_LOW` goes to byte 7 (R74). -/
def execEncodeFanLow (c : CommandState) (s : State) : Host.Outcome State Fault Refusal :=
  transact { c with fan := .low } s

/-- `ENCODE.fan.Mid`: `CODE_FAN_MID` goes to byte 7 (R74). -/
def execEncodeFanMid (c : CommandState) (s : State) : Host.Outcome State Fault Refusal :=
  transact { c with fan := .mid } s

/-- `ENCODE.fan.High`: `CODE_FAN_HIGH` goes to byte 7 (R74). -/
def execEncodeFanHigh (c : CommandState) (s : State) : Host.Outcome State Fault Refusal :=
  transact { c with fan := .high } s

/-- `ENCODE.fan.HiPower`: `CODE_FAN_HIPOWER` goes to byte 7 (R74). -/
def execEncodeFanHiPower (c : CommandState) (s : State) : Host.Outcome State Fault Refusal :=
  transact { c with fan := .hiPower } s

/-- `ENCODE.fan.Econo`: `CODE_FAN_ECONO` goes to byte 7 (R74). -/
def execEncodeFanEcono (c : CommandState) (s : State) : Host.Outcome State Fault Refusal :=
  transact { c with fan := .econo } s

end Sys2Proof.Machine
end

