-- ==== Sys2Proof/Machine/LouverRows.lean ====
section
/-!
DEFINITION. The `vswing`, `hswing` and `clean` rows of the table: an ENCODE whose codes go to bytes 5 and 7.
-/

namespace Sys2Proof.Machine

/-- `ENCODE.vswing.Swing`: `CODE_VSWING_SWING` goes to bytes 5 and 7 through its two masks (R73, R74). -/
def execEncodeVswingSwing (c : CommandState) (s : State) : Host.Outcome State Fault Refusal :=
  transact { c with vswing := .swing } s

/-- `ENCODE.vswing.Up`: `CODE_VSWING_UP` goes to bytes 5 and 7 through its two masks (R73, R74). -/
def execEncodeVswingUp (c : CommandState) (s : State) : Host.Outcome State Fault Refusal :=
  transact { c with vswing := .up } s

/-- `ENCODE.vswing.MidUp`: `CODE_VSWING_MIDUP` goes to bytes 5 and 7 through its two masks (R73, R74). -/
def execEncodeVswingMidUp (c : CommandState) (s : State) : Host.Outcome State Fault Refusal :=
  transact { c with vswing := .midUp } s

/-- `ENCODE.vswing.Middle`: `CODE_VSWING_MIDDLE` goes to bytes 5 and 7 through its two masks (R73, R74). -/
def execEncodeVswingMiddle (c : CommandState) (s : State) : Host.Outcome State Fault Refusal :=
  transact { c with vswing := .middle } s

/-- `ENCODE.vswing.MidDown`: `CODE_VSWING_MIDDOWN` goes to bytes 5 and 7 through its two masks (R73, R74). -/
def execEncodeVswingMidDown (c : CommandState) (s : State) : Host.Outcome State Fault Refusal :=
  transact { c with vswing := .midDown } s

/-- `ENCODE.vswing.Down`: `CODE_VSWING_DOWN` goes to bytes 5 and 7 through its two masks (R73, R74). -/
def execEncodeVswingDown (c : CommandState) (s : State) : Host.Outcome State Fault Refusal :=
  transact { c with vswing := .down } s

/-- `ENCODE.vswing.Stop`: `CODE_VSWING_STOP` goes to bytes 5 and 7 through its two masks (R73, R74). -/
def execEncodeVswingStop (c : CommandState) (s : State) : Host.Outcome State Fault Refusal :=
  transact { c with vswing := .stop } s

/-- `ENCODE.hswing.Stop`: `CODE_HSWING_STOP` goes to byte 5 (R73). -/
def execEncodeHswingStop (c : CommandState) (s : State) : Host.Outcome State Fault Refusal :=
  transact { c with hswing := .stop } s

/-- `ENCODE.clean.On`: `CODE_CLEAN_ON` goes to byte 5 (R73). -/
def execEncodeCleanOn (c : CommandState) (s : State) : Host.Outcome State Fault Refusal :=
  transact { c with clean := .on } s

/-- `ENCODE.clean.Off`: `CODE_CLEAN_OFF` goes to byte 5 (R73). -/
def execEncodeCleanOff (c : CommandState) (s : State) : Host.Outcome State Fault Refusal :=
  transact { c with clean := .off } s

end Sys2Proof.Machine
end

