-- ==== Sys2Proof/Machine/Port.lean ====
section
/-!
DEFINITION. The two operations that the ports select (`43_transactions.md`, format PORT of the table): ENCODE and
RESET.
-/

namespace Sys2Proof.Machine

/-- `ENCODE` of a legal command (R126). -/
def execEncode (c : CommandState) (s : State) : Host.Outcome State Fault Refusal := transact c s

/-- `RESET` (R127, R160): in every status, FAULT included. -/
def execReset (s : State) : Host.Outcome State Fault Refusal := .next (resetLatches s)

end Sys2Proof.Machine
end

