-- ==== Sys2Proof/Machine/PowerMode.lean ====
section
/-!
DEFINITION. The `power` and `mode` rows of the table: an ENCODE whose code goes to byte 9.
-/

namespace Sys2Proof.Machine

/-- `ENCODE.power.Off`: `CODE_POWER_OFF` goes to byte 9 (R75). -/
def execEncodePowerOff (c : CommandState) (s : State) : Host.Outcome State Fault Refusal :=
  transact { c with power := .off } s

/-- `ENCODE.power.On`: `CODE_POWER_ON` goes to byte 9 (R75). -/
def execEncodePowerOn (c : CommandState) (s : State) : Host.Outcome State Fault Refusal :=
  transact { c with power := .on } s

/-- `ENCODE.mode.Auto`: `CODE_MODE_AUTO` goes to byte 9 (R75). -/
def execEncodeModeAuto (c : CommandState) (s : State) : Host.Outcome State Fault Refusal :=
  transact { c with mode := .auto } s

/-- `ENCODE.mode.Cool`: `CODE_MODE_COOL` goes to byte 9 (R75). -/
def execEncodeModeCool (c : CommandState) (s : State) : Host.Outcome State Fault Refusal :=
  transact { c with mode := .cool } s

/-- `ENCODE.mode.Dry`: `CODE_MODE_DRY` goes to byte 9 (R75). -/
def execEncodeModeDry (c : CommandState) (s : State) : Host.Outcome State Fault Refusal :=
  transact { c with mode := .dry } s

/-- `ENCODE.mode.Heat`: `CODE_MODE_HEAT` goes to byte 9 (R75). -/
def execEncodeModeHeat (c : CommandState) (s : State) : Host.Outcome State Fault Refusal :=
  transact { c with mode := .heat } s

/-- `ENCODE.mode.FanOnly`: `CODE_MODE_FANONLY` goes to byte 9 (R75). -/
def execEncodeModeFanOnly (c : CommandState) (s : State) : Host.Outcome State Fault Refusal :=
  transact { c with mode := .fanOnly } s

/-- `ENCODE.mode.Maintenance`: `CODE_MODE_MAINTENANCE` goes to byte 9 (R75). -/
def execEncodeModeMaintenance (c : CommandState) (s : State) : Host.Outcome State Fault Refusal :=
  transact { c with mode := .maintenance } s

end Sys2Proof.Machine
end

