-- ==== Sys2Proof/Machine/ReservedRows.lean ====
section
/-!
DEFINITION. The rows of reserved selectors and reserved bits: each takes the exception InvalidCommand
(`60_exceptions.md` R141, R145).
-/

namespace Sys2Proof.Machine

/-- `ENCODE.reserved_bits`: non-zero reserved bits raise `InvalidCommand` with `CAUSE` bit 4 beside every other
invalid part (R50, R144, R145). -/
def execEncodeReservedBits (w : Word) (s : State) : Host.Outcome State Fault Refusal :=
  rejectCommand (causeOf w ||| badReserved) s

/-- `ENCODE.mode.reserved6`: mode selector 6 raises `InvalidCommand` with `CAUSE` bit 0 beside every other
invalid part (R50, R144, R145). -/
def execEncodeModeReserved6 (w : Word) (s : State) : Host.Outcome State Fault Refusal :=
  rejectCommand (causeOf w ||| badMode) s

/-- `ENCODE.mode.reserved7`: mode selector 7 raises `InvalidCommand` with `CAUSE` bit 0 beside every other
invalid part (R50, R144, R145). -/
def execEncodeModeReserved7 (w : Word) (s : State) : Host.Outcome State Fault Refusal :=
  rejectCommand (causeOf w ||| badMode) s

/-- `ENCODE.fan.reserved6`: fan selector 6 raises `InvalidCommand` with `CAUSE` bit 1 beside every other
invalid part (R50, R144, R145). -/
def execEncodeFanReserved6 (w : Word) (s : State) : Host.Outcome State Fault Refusal :=
  rejectCommand (causeOf w ||| badFan) s

/-- `ENCODE.fan.reserved7`: fan selector 7 raises `InvalidCommand` with `CAUSE` bit 1 beside every other
invalid part (R50, R144, R145). -/
def execEncodeFanReserved7 (w : Word) (s : State) : Host.Outcome State Fault Refusal :=
  rejectCommand (causeOf w ||| badFan) s

/-- `ENCODE.vswing.reserved7`: vswing selector 7 raises `InvalidCommand` with `CAUSE` bit 2 beside every other
invalid part (R50, R144, R145). -/
def execEncodeVswingReserved7 (w : Word) (s : State) : Host.Outcome State Fault Refusal :=
  rejectCommand (causeOf w ||| badVswing) s

/-- `ENCODE.hswing.reserved1`: hswing selector 1 raises `InvalidCommand` with `CAUSE` bit 3 beside every other
invalid part (R50, R144, R145). -/
def execEncodeHswingReserved1 (w : Word) (s : State) : Host.Outcome State Fault Refusal :=
  rejectCommand (causeOf w ||| badHswing) s

end Sys2Proof.Machine
end

