-- ==== Sys2Proof/Machine/ResultLayouts.lean ====
section
/-!
DEFINITION. The two result layouts of the table (`30_encoding.md` R58): the ENCODE transaction, with its result
written out by the layout the row gives. No port or word selects a layout on its own, and the two results are always
written together (R37, R13), so each row is the whole transaction (log entry 6).
-/

namespace Sys2Proof.Machine

/-- `PAYLOAD.frame`: `52 AE C3 26 D9 b5 ~b5 b7 ~b7 b9 ~b9` (R78, R54). -/
def execPayloadFrame (c : CommandState) (s : State) : Host.Outcome State Fault Refusal :=
  let t := s.cfg.val.code
  let frame := payloadLayout (pmB5 t c) (pmB7 t c) (pmB9 t c)
  unlessFault s (commit frame (fbEnv s.cfg.val frame) s)

/-- `ENVELOPE.frame`: `26 00 len_lo len_hi body 0D 05` (R110, R57). -/
def execEnvelopeFrame (c : CommandState) (s : State) : Host.Outcome State Fault Refusal :=
  let body := fbBody (fbTrain s.cfg.val (payloadOf s c))
  unlessFault s (commit (payloadOf s c) (envelopeLayout body) s)

end Sys2Proof.Machine
end

