-- ==== Sys2Proof/Machine/TemperatureRows.lean ====
section
/-!
DEFINITION. The temperature rows of the table (`40_parameter_mapper.md` R71), the same for every mode (R72).
-/

namespace Sys2Proof.Machine

/-- `ENCODE.temp.18`: the temperature code of 18 in byte 9 (R71, R75). -/
def execEncodeTemp18 (c : CommandState) (s : State) : Host.Outcome State Fault Refusal :=
  transact { c with targetTemperature := 18 } s

/-- `ENCODE.temp.19`: the temperature code of 19 in byte 9 (R71, R75). -/
def execEncodeTemp19 (c : CommandState) (s : State) : Host.Outcome State Fault Refusal :=
  transact { c with targetTemperature := 19 } s

/-- `ENCODE.temp.20`: the temperature code of 20 in byte 9 (R71, R75). -/
def execEncodeTemp20 (c : CommandState) (s : State) : Host.Outcome State Fault Refusal :=
  transact { c with targetTemperature := 20 } s

/-- `ENCODE.temp.21`: the temperature code of 21 in byte 9 (R71, R75). -/
def execEncodeTemp21 (c : CommandState) (s : State) : Host.Outcome State Fault Refusal :=
  transact { c with targetTemperature := 21 } s

/-- `ENCODE.temp.22`: the temperature code of 22 in byte 9 (R71, R75). -/
def execEncodeTemp22 (c : CommandState) (s : State) : Host.Outcome State Fault Refusal :=
  transact { c with targetTemperature := 22 } s

/-- `ENCODE.temp.23`: the temperature code of 23 in byte 9 (R71, R75). -/
def execEncodeTemp23 (c : CommandState) (s : State) : Host.Outcome State Fault Refusal :=
  transact { c with targetTemperature := 23 } s

/-- `ENCODE.temp.24`: the temperature code of 24 in byte 9 (R71, R75). -/
def execEncodeTemp24 (c : CommandState) (s : State) : Host.Outcome State Fault Refusal :=
  transact { c with targetTemperature := 24 } s

/-- `ENCODE.temp.25`: the temperature code of 25 in byte 9 (R71, R75). -/
def execEncodeTemp25 (c : CommandState) (s : State) : Host.Outcome State Fault Refusal :=
  transact { c with targetTemperature := 25 } s

/-- `ENCODE.temp.26`: the temperature code of 26 in byte 9 (R71, R75). -/
def execEncodeTemp26 (c : CommandState) (s : State) : Host.Outcome State Fault Refusal :=
  transact { c with targetTemperature := 26 } s

/-- `ENCODE.temp.27`: the temperature code of 27 in byte 9 (R71, R75). -/
def execEncodeTemp27 (c : CommandState) (s : State) : Host.Outcome State Fault Refusal :=
  transact { c with targetTemperature := 27 } s

/-- `ENCODE.temp.28`: the temperature code of 28 in byte 9 (R71, R75). -/
def execEncodeTemp28 (c : CommandState) (s : State) : Host.Outcome State Fault Refusal :=
  transact { c with targetTemperature := 28 } s

/-- `ENCODE.temp.29`: the temperature code of 29 in byte 9 (R71, R75). -/
def execEncodeTemp29 (c : CommandState) (s : State) : Host.Outcome State Fault Refusal :=
  transact { c with targetTemperature := 29 } s

/-- `ENCODE.temp.30`: the temperature code of 30 in byte 9 (R71, R75). -/
def execEncodeTemp30 (c : CommandState) (s : State) : Host.Outcome State Fault Refusal :=
  transact { c with targetTemperature := 30 } s

/-- `ENCODE.temp.fallback`: every temperature outside 18 to 30 takes the code of the default 24, without a fault (R71, R142). -/
def execEncodeTempFallback (c : CommandState) (s : State) : Host.Outcome State Fault Refusal :=
  transact { c with targetTemperature := fixedParams.tDefault } s

end Sys2Proof.Machine
end

