-- ==== Sys2Proof/Machine/Dispatch.lean ====
section
/-!
DEFINITION. The meaning of every instruction, one arm per constructor of Instr.
-/

namespace Sys2Proof.Machine

def exec (i : Instr) (s : State) : Host.Outcome State Fault Refusal :=
  match i with
  | .encode c => Sys2Proof.Machine.execEncode c s
  | .reset => Sys2Proof.Machine.execReset s
  | .encodeReservedBits w => Sys2Proof.Machine.execEncodeReservedBits w s
  | .encodePowerOff c => Sys2Proof.Machine.execEncodePowerOff c s
  | .encodePowerOn c => Sys2Proof.Machine.execEncodePowerOn c s
  | .encodeModeAuto c => Sys2Proof.Machine.execEncodeModeAuto c s
  | .encodeModeCool c => Sys2Proof.Machine.execEncodeModeCool c s
  | .encodeModeDry c => Sys2Proof.Machine.execEncodeModeDry c s
  | .encodeModeHeat c => Sys2Proof.Machine.execEncodeModeHeat c s
  | .encodeModeFanOnly c => Sys2Proof.Machine.execEncodeModeFanOnly c s
  | .encodeModeMaintenance c => Sys2Proof.Machine.execEncodeModeMaintenance c s
  | .encodeModeReserved6 w => Sys2Proof.Machine.execEncodeModeReserved6 w s
  | .encodeModeReserved7 w => Sys2Proof.Machine.execEncodeModeReserved7 w s
  | .encodeFanAuto c => Sys2Proof.Machine.execEncodeFanAuto c s
  | .encodeFanLow c => Sys2Proof.Machine.execEncodeFanLow c s
  | .encodeFanMid c => Sys2Proof.Machine.execEncodeFanMid c s
  | .encodeFanHigh c => Sys2Proof.Machine.execEncodeFanHigh c s
  | .encodeFanHiPower c => Sys2Proof.Machine.execEncodeFanHiPower c s
  | .encodeFanEcono c => Sys2Proof.Machine.execEncodeFanEcono c s
  | .encodeFanReserved6 w => Sys2Proof.Machine.execEncodeFanReserved6 w s
  | .encodeFanReserved7 w => Sys2Proof.Machine.execEncodeFanReserved7 w s
  | .encodeVswingSwing c => Sys2Proof.Machine.execEncodeVswingSwing c s
  | .encodeVswingUp c => Sys2Proof.Machine.execEncodeVswingUp c s
  | .encodeVswingMidUp c => Sys2Proof.Machine.execEncodeVswingMidUp c s
  | .encodeVswingMiddle c => Sys2Proof.Machine.execEncodeVswingMiddle c s
  | .encodeVswingMidDown c => Sys2Proof.Machine.execEncodeVswingMidDown c s
  | .encodeVswingDown c => Sys2Proof.Machine.execEncodeVswingDown c s
  | .encodeVswingStop c => Sys2Proof.Machine.execEncodeVswingStop c s
  | .encodeVswingReserved7 w => Sys2Proof.Machine.execEncodeVswingReserved7 w s
  | .encodeHswingStop c => Sys2Proof.Machine.execEncodeHswingStop c s
  | .encodeHswingReserved1 w => Sys2Proof.Machine.execEncodeHswingReserved1 w s
  | .encodeCleanOn c => Sys2Proof.Machine.execEncodeCleanOn c s
  | .encodeCleanOff c => Sys2Proof.Machine.execEncodeCleanOff c s
  | .encodeTemp18 c => Sys2Proof.Machine.execEncodeTemp18 c s
  | .encodeTemp19 c => Sys2Proof.Machine.execEncodeTemp19 c s
  | .encodeTemp20 c => Sys2Proof.Machine.execEncodeTemp20 c s
  | .encodeTemp21 c => Sys2Proof.Machine.execEncodeTemp21 c s
  | .encodeTemp22 c => Sys2Proof.Machine.execEncodeTemp22 c s
  | .encodeTemp23 c => Sys2Proof.Machine.execEncodeTemp23 c s
  | .encodeTemp24 c => Sys2Proof.Machine.execEncodeTemp24 c s
  | .encodeTemp25 c => Sys2Proof.Machine.execEncodeTemp25 c s
  | .encodeTemp26 c => Sys2Proof.Machine.execEncodeTemp26 c s
  | .encodeTemp27 c => Sys2Proof.Machine.execEncodeTemp27 c s
  | .encodeTemp28 c => Sys2Proof.Machine.execEncodeTemp28 c s
  | .encodeTemp29 c => Sys2Proof.Machine.execEncodeTemp29 c s
  | .encodeTemp30 c => Sys2Proof.Machine.execEncodeTemp30 c s
  | .encodeTempFallback c => Sys2Proof.Machine.execEncodeTempFallback c s
  | .payloadFrame c => Sys2Proof.Machine.execPayloadFrame c s
  | .envelopeFrame c => Sys2Proof.Machine.execEnvelopeFrame c s

end Sys2Proof.Machine
end

