-- ==== Sys2Proof/Machine/Step.lean ====
section
/-!
DEFINITION. One step of the block (`43_transactions.md` R125, R126, R127, R132): sample the ports, and perform what
they select as one whole transaction.
-/

namespace Sys2Proof.Machine

/-- One step. With no sample, or with a sample that selects nothing, the block takes no step and every latch keeps its
value (R132): the state goes on, less the sample. -/
def step (s : State) : Host.Outcome State Fault Refusal :=
  match takeSample s with
  | none => .next s
  | some (p, t) =>
    match decodePorts p with
    | none => .next t
    | some i => exec i t

/-- The host presents a command word so that the very next step performs it (log entry 7). -/
def State.withFetchWord (s : State) (nbits w : Nat) : State :=
  { s with inputs := samplesOfBits nbits w ++ s.inputs }

end Sys2Proof.Machine
end

