-- ==== Sys2Proof/Machine/Assembler.lean ====
section
/-!
DEFINITION. The textual syntax (`30_encoding.md` R60 to R62): the lines of a program with the ports each one drives,
the printed forms, and the reading of a line of text. It belongs to a front end; the block sees ports only (D18).
-/

namespace Sys2Proof.Machine

/-- A line of a program (R60), with the one pseudo-form (R61). -/
inductive AsmLine where
  /-- `ENCODE CommandState` with all seven fields. -/
  | encode (c : CommandState)
  /-- `ENCODE CommandState` with `mode` left out, which means `mode=Auto` (R61). -/
  | encodeModeOmitted (power : Power) (fan : Fan) (vswing : VSwing) (hswing : HSwing) (clean : Clean) (t : Int)
  /-- `ENCODE.W`: a raw word, the only way to write an illegal command. -/
  | encodeW (w : Word)
  /-- `RESET`. -/
  | reset
deriving DecidableEq, Repr

/-- The ports that present a command; a temperature that the 16-bit field cannot hold cannot be presented (R49, D5). -/
def assembleCommand (c : CommandState) : Option PortSample :=
  if c.representable then some ⟨encodeCmdw c, true, false⟩ else none

/-- The ports a line drives (R60, R61). -/
def assemble : AsmLine → Option PortSample
  | .encode c => assembleCommand c
  | .encodeModeOmitted power fan vswing hswing clean t =>
    assembleCommand ⟨power, .auto, fan, vswing, hswing, clean, t⟩
  | .encodeW w => some ⟨w, true, false⟩
  | .reset => some ⟨0#32, false, true⟩

/-- The source's name of a `power` value (R46). -/
def powerText : Power → String
  | .off => "Off"
  | .on => "On"

/-- The source's name of a `mode` value (R46). -/
def modeText : Mode → String
  | .auto => "Auto"
  | .cool => "Cool"
  | .dry => "Dry"
  | .heat => "Heat"
  | .fanOnly => "FanOnly"
  | .maintenance => "Maintenance"

/-- The source's name of a `fan` value (R46). -/
def fanText : Fan → String
  | .auto => "Auto"
  | .low => "Low"
  | .mid => "Mid"
  | .high => "High"
  | .hiPower => "HiPower"
  | .econo => "Econo"

/-- The source's name of a `vswing` value (R46). -/
def vswingText : VSwing → String
  | .swing => "Swing"
  | .up => "Up"
  | .midUp => "MidUp"
  | .middle => "Middle"
  | .midDown => "MidDown"
  | .down => "Down"
  | .stop => "Stop"

/-- The source's name of an `hswing` value (R46). -/
def hswingText : HSwing → String
  | .stop => "Stop"

/-- The source's name of a `clean` value (R46). -/
def cleanText : Clean → String
  | .on => "On"
  | .off => "Off"

/-- A hexadecimal digit, capitals as the spec prints them (R62). -/
def hexDigit (n : Nat) : Char := Char.ofNat (if n < 10 then 48 + n else 55 + n)

/-- The `k` low hexadecimal digits of a number, most significant first. -/
def hexDigits : Nat → Nat → List Char
  | 0, _ => []
  | k + 1, n => hexDigits k (n / 16) ++ [hexDigit (n % 16)]

/-- A byte as two hexadecimal digits (R8, R62). -/
def byteText (b : Byte) : String := String.ofList (hexDigits 2 b.toNat)

/-- A PayloadFrame or an Envelope as hexadecimal bytes (R62). -/
def bytesText (bs : List Byte) : String := " ".intercalate (bs.map byteText)

/-- A PulseTrain as decimal values (R62). -/
def trainText (d : List Nat) : String := ", ".intercalate (d.map toString)

/-- The opening brace of R60's syntax, by number. -/
def openBrace : Char := Char.ofNat 123

/-- The closing brace. -/
def closeBrace : Char := Char.ofNat 125

/-- The fields of a command between the braces that R60 writes. -/
def fieldsText (fields : List (String × String)) : String :=
  "CommandState" ++ openBrace.toString ++
    ", ".intercalate (fields.map fun f => f.1 ++ "=" ++ f.2) ++ closeBrace.toString

/-- The text of a line (R60, R61). -/
def AsmLine.text : AsmLine → String
  | .encode c => "ENCODE " ++ fieldsText
      [("power", powerText c.power), ("mode", modeText c.mode), ("fan", fanText c.fan),
        ("vswing", vswingText c.vswing), ("hswing", hswingText c.hswing), ("clean", cleanText c.clean),
        ("targetTemperature", toString c.targetTemperature)]
  | .encodeModeOmitted power fan vswing hswing clean t => "ENCODE " ++ fieldsText
      [("power", powerText power), ("fan", fanText fan), ("vswing", vswingText vswing),
        ("hswing", hswingText hswing), ("clean", cleanText clean), ("targetTemperature", toString t)]
  | .encodeW w => "ENCODE.W 0x" ++ String.ofList (hexDigits 8 w.toNat)
  | .reset => "RESET"

/-- The parts of a text between separators. -/
def splitAtChar (sep : Char) : List Char → List (List Char)
  | [] => [[]]
  | c :: cs =>
    match splitAtChar sep cs with
    | [] => [[c]]
    | part :: parts => if c = sep then [] :: part :: parts else (c :: part) :: parts

/-- The text behind a fixed beginning. -/
def textBehind (beginning : String) (cs : List Char) : Option (List Char) := beginning.toList.isPrefixOf? cs

/-- The value of a list with a given name. -/
def named {α : Type} (values : List α) (text : α → String) (cs : List Char) : Option α :=
  values.find? fun v => (text v).toList = cs

/-- The value of a digit, hexadecimal ones in either case. -/
def digitOf (c : Char) : Option Nat :=
  let n := c.toNat
  if 48 ≤ n ∧ n ≤ 57 then some (n - 48)
  else if 65 ≤ n ∧ n ≤ 70 then some (n - 55)
  else if 97 ≤ n ∧ n ≤ 102 then some (n - 87)
  else none

/-- A sequence of digits in a base, most significant first. -/
def digitsIn (base : Nat) : List Char → Nat → Option Nat
  | [], acc => some acc
  | c :: cs, acc =>
    match digitOf c with
    | some d => if d < base then digitsIn base cs (base * acc + d) else none
    | none => none

/-- A number of at least one digit. -/
def readNat (base : Nat) (cs : List Char) : Option Nat := if cs = [] then none else digitsIn base cs 0

/-- `<integer>`: decimal, with a minus sign where it is negative. -/
def readInt : List Char → Option Int
  | '-' :: cs => (readNat 10 cs).map fun n => -(n : Int)
  | cs => (readNat 10 cs).map fun n => (n : Int)

/-- `power=<Off|On>` (R60). -/
def readPower (cs : List Char) : Option Power := (textBehind "power=" cs).bind (named [.off, .on] powerText)

/-- `mode=<...>` (R60). -/
def readMode (cs : List Char) : Option Mode :=
  (textBehind "mode=" cs).bind (named [.auto, .cool, .dry, .heat, .fanOnly, .maintenance] modeText)

/-- `fan=<...>` (R60). -/
def readFan (cs : List Char) : Option Fan :=
  (textBehind "fan=" cs).bind (named [.auto, .low, .mid, .high, .hiPower, .econo] fanText)

/-- `vswing=<...>` (R60). -/
def readVSwing (cs : List Char) : Option VSwing :=
  (textBehind "vswing=" cs).bind (named [.swing, .up, .midUp, .middle, .midDown, .down, .stop] vswingText)

/-- `hswing=Stop` (R60). -/
def readHSwing (cs : List Char) : Option HSwing := (textBehind "hswing=" cs).bind (named [.stop] hswingText)

/-- `clean=<On|Off>` (R60). -/
def readClean (cs : List Char) : Option Clean := (textBehind "clean=" cs).bind (named [.on, .off] cleanText)

/-- `targetTemperature=<integer>` (R60). -/
def readTemperature (cs : List Char) : Option Int := (textBehind "targetTemperature=" cs).bind readInt

/-- The seven fields in R60's order, or six with `mode` left out (R61). -/
def readFields : List (List Char) → Option AsmLine
  | [p, m, f, v, h, c, t] => do
    return .encode ⟨← readPower p, ← readMode m, ← readFan f, ← readVSwing v, ← readHSwing h, ← readClean c,
      ← readTemperature t⟩
  | [p, f, v, h, c, t] => do
    return .encodeModeOmitted (← readPower p) (← readFan f) (← readVSwing v) (← readHSwing h) (← readClean c)
      (← readTemperature t)
  | _ => none

/-- The fields between their braces. -/
def readCommand : List Char → Option AsmLine
  | [] => none
  | c :: cs =>
    if c = openBrace ∧ cs.getLast? = some closeBrace then readFields (splitAtChar ',' cs.dropLast) else none

/-- A hexadecimal command word of at most 8 digits (R60). -/
def readWord (cs : List Char) : Option AsmLine :=
  if cs.length ≤ 8 then (readNat 16 cs).map fun n => .encodeW (BitVec.ofNat 32 n) else none

/-- A line of text read as a line of a program (R60, R61). Blanks and line ends are dropped first
(log entry 14). -/
def readLine (text : String) : Option AsmLine :=
  let cs := text.toList.filter fun c => !c.isWhitespace
  if cs = "RESET".toList then some .reset
  else
    match textBehind "ENCODE.W0x" cs with
    | some digits => readWord digits
    | none => (textBehind "ENCODECommandState" cs).bind readCommand

end Sys2Proof.Machine
end

