-- ==== Sys2Proof/Machine/Readout.lean ====
section
/-!
DEFINITION. What the host can read (`43_transactions.md` R133): functions of the state, so a read has no side effect
(`20_memory.md` R38). A byte that holds no value gives no result, never a zero or a stale byte (`10_state.md` R13,
R19; `70_reset_and_hazards.md` R163).
-/

namespace Sys2Proof.Machine

/-- The code of `STATUS` in its 2 bits (R15). -/
def statusCode : Status → BitVec 2
  | .idle => 0#2
  | .done => 1#2
  | .fault => 2#2

/-- The host's read of `STATUS`, at any time (R133). -/
def hostReadStatus (s : State) : BitVec 2 := statusCode s.status

/-- The host's read of `CAUSE`, at any time (R133). -/
def hostReadCause (s : State) : BitVec 5 := s.cause

/-- The host's read of `ENV_LEN`, at any time (R133). -/
def hostReadEnvLen (s : State) : BitVec 16 := s.envLen

/-- The host's read of `PAYLOAD[k]`: a value exactly while `STATUS = DONE` (R13). -/
def hostReadPayload (s : State) (k : Nat) : Except Fault Byte :=
  if k < fixedParams.payloadLen then
    match s.status, s.payload.bind (fun f => f.toList[k]?) with
    | .done, some b => .ok b
    | _, _ => .error .noValue
  else .error .noSuchIndex

/-- The host's read of `ENV[j]`: a value exactly while `STATUS = DONE` and `j < ENV_LEN` (R19). -/
def hostReadEnv (s : State) (j : Nat) : Except Fault Byte :=
  if j < envMax then
    match decide (s.status = .done ∧ j < s.envLen.toNat), memByte s.env j with
    | true, some b => .ok b
    | _, _ => .error .noValue
  else .error .noSuchIndex

/-- The two length bytes read as one little-endian 16-bit number, which is two reads of a byte (R35, R32). -/
def hostReadLength (s : State) : Except Fault Nat := do
  let lo ← hostReadEnv s 2
  let hi ← hostReadEnv s 3
  return lo.toNat + 256 * hi.toNat

/-- The bytes the host copies whole, in order, to the Transport: `ENV[0 .. ENV_LEN-1]` (R133, R129). -/
def hostEnvelope (s : State) : Except Fault (List Byte) :=
  if s.status = .done then (List.range s.envLen.toNat).mapM (hostReadEnv s) else .error .noValue

end Sys2Proof.Machine
end

