-- ==== Sys2Proof/Safety.lean ====
section
/-!
DEFINITION. What the claims mean by a consistent block: the relations between the latches that the spec states
(`10_state.md` R13, R14, R15, R19, R21; `20_memory.md` R36; `40_parameter_mapper.md` R77, R79), and a safe outcome.
-/

namespace Sys2Proof.Safety

open Sys2Proof.Machine

/-- A step or instruction that goes on: neither a fault nor a refusal. -/
def GoesOn (o : Host.Outcome State Fault Refusal) : Prop := ∃ t, o = .next t

/-- A frame with the fixed first five bytes (R77) and the three complements (R79). -/
def FrameShape (f : PayloadFrame) : Prop :=
  f.toList.take 5 = [0x52#8, 0xAE#8, 0xC3#8, 0x26#8, 0xD9#8] ∧
    f[6] = 0xFF#8 - f[5] ∧ f[8] = 0xFF#8 - f[7] ∧ f[10] = 0xFF#8 - f[9]

/-- The relations between the latches. -/
structure LatchInvariant (s : State) : Prop where
  /-- The output buffer is in canonical form. -/
  canonical : memSorted s.env = true
  /-- No byte at or above `ENV_LEN` holds a value, and `ENV_LEN` never exceeds the capacity (R14, R19). -/
  bounded : (∀ x ∈ s.env, x.1 < s.envLen.toNat) ∧ s.envLen.toNat ≤ 362
  /-- `CAUSE ≠ 0` exactly while `STATUS = FAULT` (R15). -/
  causeOfFault : s.cause ≠ 0#5 ↔ s.status = .fault
  /-- Without a result nothing holds a value and `ENV_LEN = 0` (R13, R14, R19). -/
  withdrawn : s.status ≠ .done → s.payload = none ∧ s.env = [] ∧ s.envLen = 0#16
  /-- With a result, the payload is a frame of the right shape and the buffer holds its envelope, 184 bytes (R13, R36,
  R111). -/
  result : s.status = .done → ∃ f, s.payload = some f ∧ FrameShape f ∧ s.envLen.toNat = 184 ∧
    ∀ j, memByte s.env j = (fbEnv s.cfg.val f)[j]?

end Sys2Proof.Safety
end

