-- ==== Sys2Proof/Certificates/Slice0/Obligations.lean ====
section
/-!
DEFINITION. The statements for the provers, each a rule of `spec/` about what an operation or the block does. The
definitions under Claims restate the spec's formulas with numbers and sequences, apart from the model's own
definitions, so that a slip in the model makes a statement false.
-/

namespace Sys2Proof.Claims

open Sys2Proof Sys2Proof.Machine

/-- The fields of a command word as numbers (R47). -/
def numP (w : Word) : Nat := w.toNat % 2
/-- `M` (R47). -/
def numM (w : Word) : Nat := w.toNat / 2 % 8
/-- `F` (R47). -/
def numF (w : Word) : Nat := w.toNat / 16 % 8
/-- `V` (R47). -/
def numV (w : Word) : Nat := w.toNat / 128 % 8
/-- `H` (R47). -/
def numH (w : Word) : Nat := w.toNat / 1024 % 2
/-- `C` (R47). -/
def numC (w : Word) : Nat := w.toNat / 2048 % 2
/-- The reserved bits (R47). -/
def numR (w : Word) : Nat := w.toNat / 4096 % 16
/-- `T` read as a signed integer (R49). -/
def numT (w : Word) : Int :=
  if w.toNat / 65536 < 32768 then (w.toNat / 65536 : Nat) else (w.toNat / 65536 : Nat) - 65536

/-- The values of each field in the order in which the source lists them (R46, R48). -/
def powers : List Power := [.off, .on]
/-- `mode` (R46). -/
def modes : List Mode := [.auto, .cool, .dry, .heat, .fanOnly, .maintenance]
/-- `fan` (R46). -/
def fans : List Fan := [.auto, .low, .mid, .high, .hiPower, .econo]
/-- `vswing` (R46). -/
def vswings : List VSwing := [.swing, .up, .midUp, .middle, .midDown, .down, .stop]
/-- `clean` (R46). -/
def cleans : List Clean := [.on, .off]

/-- A legal command word (R51). -/
def Legal (w : Word) : Prop := numM w ≤ 5 ∧ numF w ≤ 5 ∧ numV w ≤ 6 ∧ numH w = 0 ∧ numR w = 0

/-- A mask reports exactly the invalid parts of a word (R15, R50, R144). -/
def CauseReports (w : Word) (k : BitVec 5) : Prop :=
  (k.getLsbD 0 = true ↔ 6 ≤ numM w) ∧ (k.getLsbD 1 = true ↔ 6 ≤ numF w) ∧ (k.getLsbD 2 = true ↔ numV w = 7) ∧
    (k.getLsbD 3 = true ↔ numH w = 1) ∧ (k.getLsbD 4 = true ↔ numR w ≠ 0)

/-- The command that a legal word names: each field the value at its selector's place, and `T` signed (R48, R49). -/
def NamedBy (w : Word) (c : CommandState) : Prop :=
  powers[numP w]? = some c.power ∧ modes[numM w]? = some c.mode ∧ fans[numF w]? = some c.fan ∧
    vswings[numV w]? = some c.vswing ∧ cleans[numC w]? = some c.clean ∧ c.targetTemperature = numT w

/-- The temperature code in closed form (R71). -/
def tempCode (t : Int) : Byte := if 18 ≤ t ∧ t ≤ 30 then BitVec.ofInt 8 (16 * (32 - t)) else 0x80#8

/-- Payload byte 5 over its three codes (R54). -/
def byte5 (hswing vswing clean : Byte) : Byte := 0x11#8 ||| hswing ||| (vswing &&& 0x02#8) ||| clean

/-- Payload byte 7 over its two codes (R54). -/
def byte7 (fan vswing : Byte) : Byte := 0x07#8 ||| fan ||| (vswing &&& 0x18#8)

/-- Payload byte 9 over its three codes (R54). -/
def byte9 (mode power temp : Byte) : Byte := 0x00#8 ||| mode ||| power ||| temp

/-- A payload frame over its data bytes (R54). -/
def frame (b5 b7 b9 : Byte) : List Byte :=
  [0x52#8, 0xAE#8, 0xC3#8, 0x26#8, 0xD9#8, b5, ~~~b5, b7, ~~~b7, b9, ~~~b9]

/-- The state `t` is the state `s` after a completed ENCODE with these data bytes: all five latches are given, the
buffer holds the frame's envelope and no other byte, and the rest of the state is unchanged (R126, R54, R110, R19). -/
def Result (s t : State) (b5 b7 b9 : Byte) : Prop :=
  t.status = .done ∧ t.cause = 0#5 ∧ t.cfg = s.cfg ∧ t.inputs = s.inputs ∧
    ∃ f, t.payload = some f ∧ f.toList = frame b5 b7 b9 ∧ t.envLen.toNat = (fbEnv s.cfg.val f).length ∧
      ∀ j, memByte t.env j = (fbEnv s.cfg.val f)[j]?

/-- The instruction answers a next state with that result. -/
def CompletesWith (i : Instr) (s : State) (b5 b7 b9 : Byte) : Prop := ∃ t, exec i s = .next t ∧ Result s t b5 b7 b9

/-- Byte 5 of a command (R73). -/
def b5Of (s : State) (c : CommandState) : Byte :=
  byte5 (codeHswing s.cfg.val.code c.hswing) (codeVswing s.cfg.val.code c.vswing) (codeClean s.cfg.val.code c.clean)

/-- Byte 7 of a command (R74). -/
def b7Of (s : State) (c : CommandState) : Byte :=
  byte7 (codeFan s.cfg.val.code c.fan) (codeVswing s.cfg.val.code c.vswing)

/-- Byte 9 of a command (R75). -/
def b9Of (s : State) (c : CommandState) : Byte :=
  byte9 (codeMode s.cfg.val.code c.mode) (codePower s.cfg.val.code c.power) (tempCode c.targetTemperature)

/-- The state after InvalidCommand (R145): nothing but the five latches changes. -/
def faulted (s : State) (k : BitVec 5) : State :=
  { s with status := .fault, cause := k, envLen := 0#16, payload := none, env := [] }

/-- The instruction takes InvalidCommand and reports every invalid part of the word (R144, R145). -/
def TakesInvalidCommand (i : Instr) (s : State) (w : Word) : Prop :=
  ∃ k, k ≠ 0#5 ∧ CauseReports w k ∧ exec i s = .next (faulted s k)

/-- The state after RESET (R21): nothing but the five latches changes. -/
def cleared (s : State) : State :=
  { s with status := .idle, cause := 0#5, envLen := 0#16, payload := none, env := [] }

/-- The number of 1 bits of a byte. -/
def ones (b : Byte) : Nat := ((List.range 8).filter fun i => b.getLsbD i).length

/-- The number of 1 bits of a sequence of bytes. -/
def onesAll (bs : List Byte) : Nat := (bs.map ones).sum

/-- The little-endian value of a sequence of bytes (R32). -/
def littleEndian : List Byte → Nat
  | [] => 0
  | b :: bs => b.toNat + 256 * littleEndian bs

/-- The command word of the source's example (95_test_vectors.md V1). -/
def exampleWord : Word := 0x00180B00#32

/-- The command of the source's example. -/
def exampleCommand : CommandState := ⟨.off, .auto, .auto, .stop, .stop, .off, 24⟩

end Sys2Proof.Claims

open Sys2Proof Sys2Proof.Machine Sys2Proof.Claims Sys2Proof.Safety

/-! ## Encoding -/

/-- R50: decoding is total; a legal word names a command, any other word is InvalidCommand with every invalid part
reported; and `DecodeCMDW` inverts `EncodeCMDW` on every command that a word can carry. -/
def Obligations.DecodeCommandWord : Prop :=
  (∀ w : Word, Legal w → ∃ c, decodeCmdw w = .ok c ∧ NamedBy w c) ∧
    (∀ w : Word, ¬Legal w → ∃ k, decodeCmdw w = .error k ∧ k ≠ 0#5 ∧ CauseReports w k) ∧
    (∀ c : CommandState, -32768 ≤ c.targetTemperature → c.targetTemperature ≤ 32767 →
      decodeCmdw (encodeCmdw c) = .ok c)

/-- R47, R48: the command word is the sum of its shifted fields, each selector the place of its value in the source's
listing; the reserved bits and H are 0. -/
def Obligations.CommandWordLayout : Prop :=
  ∀ c : CommandState, ((encodeCmdw c).toNat : Int) =
    powers.idxOf c.power + 2 * modes.idxOf c.mode + 16 * fans.idxOf c.fan + 128 * vswings.idxOf c.vswing +
      2048 * cleans.idxOf c.clean + 65536 * (c.targetTemperature % 65536)

/-- R51: which words are illegal, how many are legal, and that an ENCODE of an illegal one faults and produces no
payload and no envelope. -/
def Obligations.IllegalCommandWords : Prop :=
  (∀ w : Word, (∃ k, decodeCmdw w = .error k) ↔
    (numM w = 6 ∨ numM w = 7) ∨ (numF w = 6 ∨ numF w = 7) ∨ numV w = 7 ∨ numH w = 1 ∨ numR w ≠ 0) ∧
  (∀ (w : Word) (s : State), s.status ≠ .fault → (∃ k, decodeCmdw w = .error k) →
    ∃ k, exec (decodeWord w) s = .next (faulted s k) ∧ decodeCmdw w = .error k) ∧
  Nat.card { w : Word // ∃ c, decodeCmdw w = .ok c } = 66060288

/-- The encoder gives back every bit of every command word from the instruction the decoder reads in it. -/
def Obligations.EncodeOfDecodeIsTheWord : Prop := ∀ w : Word, encodeWord (decodeWord w) = w

/-- Every well-formed instruction is a reading of the word the encoder gives it; RESET is what its ports select; and
ENCODE is the first reading of its word. -/
def Obligations.InstructionIsAReadingOfItsWord : Prop :=
  (∀ i : Instr, i.wellFormed = true → i ≠ .reset → i ∈ readings (encodeWord i)) ∧
    decodePorts (encodePorts .reset) = some .reset ∧
    (∀ c : CommandState, c.representable = true → decodePorts (encodePorts (.encode c)) = some (.encode c))

/-- All rows of the opcode table that read one word have the effect of the instruction the decoder gives for it, in
every state: the rows overlap and never disagree. The overlap is the table's (R58); that the decoder answers the first
row is the model's choice (log entry 5). -/
def Obligations.ReadingsOfAWordHaveOneEffect : Prop :=
  ∀ (w : Word) (i : Instr) (s : State), i ∈ readings w → exec i s = exec (decodeWord w) s

/-- A reading of a word is well-formed, passes its row's mask and match, and encodes to that word. -/
def Obligations.ReadingsMatchTheirRows : Prop :=
  ∀ (w : Word) (i : Instr), i ∈ readings w → i.wellFormed = true ∧ (rowTest i).holds w = true ∧ encodeWord i = w

/-- Words written out from the spec's encoding of them (95_test_vectors.md 2.1). -/
def Obligations.SpecWordsDecode : Prop :=
  decodeWord 0x00180B00#32 = .encode ⟨.off, .auto, .auto, .stop, .stop, .off, 24⟩ ∧
    decodeWord 0xFFFB02D3#32 = .encode ⟨.on, .cool, .econo, .down, .stop, .on, -5⟩ ∧
    decodeWord 0x0000000C#32 = .encodeModeReserved6 0x0000000C#32 ∧
    decodeWord 0x00000380#32 = .encodeVswingReserved7 0x00000380#32 ∧
    decodeWord 0x00001000#32 = .encodeReservedBits 0x00001000#32 ∧
    .encodeTemp22 ⟨.on, .cool, .low, .middle, .stop, .off, 22⟩ ∈ readings 0x00160993#32

/-- Every command word is 32 bits (R59). That fewer bits are read with zeros above them and that more are rejected is
the model's choice (log entry 7). -/
def Obligations.CommandWordsAreThirtyTwoBits : Prop :=
  ∀ nbits w : Nat, (nbits ≤ 32 → decodeTableWord nbits w = some (decodeWord (BitVec.ofNat 32 (w % 2 ^ nbits)))) ∧
    (32 < nbits → decodeTableWord nbits w = none)

/-! ## The step -/

/-- A step performs exactly the instruction that the oldest sample selects, on the state without that sample; `reset`
wins over `start`; with neither every latch keeps its value (R126, R127, R132). The list of samples, and that the step
answers a next state where the block takes no step, are the model's choice (log entries 1 and 11). -/
def Obligations.StepPerformsWhatThePortsSelect : Prop :=
  ∀ (s : State) (p : PortSample) (rest : List PortSample), s.inputs = p :: rest →
    (p.reset = true → step s = exec .reset { s with inputs := rest }) ∧
    (p.reset = false → p.start = true → step s = exec (decodeWord p.cmdw) { s with inputs := rest }) ∧
    (p.reset = false → p.start = false → step s = .next { s with inputs := rest })

/-- With no sample the block takes no step (R132): the model's step answers the same state, which is the model's choice
(log entries 1 and 11). -/
def Obligations.StepWithoutInputChangesNothing : Prop := ∀ s : State, s.inputs = [] → step s = .next s

/-- R126: ENCODE of a word, from the sample that selects it to the latches. A command gives its result; a word that
names none gives InvalidCommand and none of the writes of a result. -/
def Obligations.EncodeRunsThePipeline : Prop :=
  ∀ (s : State) (w : Word) (rest : List PortSample), s.inputs = ⟨w, true, false⟩ :: rest → s.status ≠ .fault →
    (∀ c, decodeCmdw w = .ok c → ∃ t, step s = .next t ∧
      Result { s with inputs := rest } t (b5Of s c) (b7Of s c) (b9Of s c)) ∧
    (∀ k, decodeCmdw w = .error k → step s = .next (faulted { s with inputs := rest } k))

/-- A step never stops: an ENCODE or a RESET completes, and InvalidCommand is taken (R126, R127, R145). For no sample,
neither strobe, and `start` in FAULT the spec says that the block takes no step (R132); that the model's step answers a
next state there is the model's choice (log entries 1 and 11). -/
def Obligations.StepGoesOn : Prop := ∀ s : State, GoesOn (step s)

/-- No step changes the configuration (R42), and the block keeps no copy of a command word (R18). The list of samples
that a step takes one of, whatever that sample selects, is the model's choice (log entries 1 and 11). -/
def Obligations.StepKeepsConfiguration : Prop :=
  ∀ s t : State, step s = .next t → t.cfg = s.cfg ∧ t.inputs = s.inputs.tail

/-! ## What each instruction completes with -/

/-- ENCODE (R126) on every command, with its payload (R78) and its envelope (R110). That the two result layouts are
each the whole ENCODE transaction is the model's choice (log entry 6). -/
def Obligations.EncodeCompletes : Prop :=
  ∀ (s : State) (c : CommandState), s.status ≠ .fault →
    CompletesWith (.encode c) s (b5Of s c) (b7Of s c) (b9Of s c) ∧
      CompletesWith (.payloadFrame c) s (b5Of s c) (b7Of s c) (b9Of s c) ∧
      CompletesWith (.envelopeFrame c) s (b5Of s c) (b7Of s c) (b9Of s c)

/-- The power rows: the row's code goes to byte 9 (R75). For a command with the other power value, which no word decodes
to this row, that the row's value stands in place of the operand's is the model's choice (log entry 10). -/
def Obligations.PowerRowsComplete : Prop :=
  ∀ (s : State) (c : CommandState), s.status ≠ .fault →
    let k := s.cfg.val.code
    let b9 := fun code => byte9 (codeMode k c.mode) code (tempCode c.targetTemperature)
    CompletesWith (.encodePowerOff c) s (b5Of s c) (b7Of s c) (b9 k.powerOff) ∧
      CompletesWith (.encodePowerOn c) s (b5Of s c) (b7Of s c) (b9 k.powerOn)

/-- The mode rows: the row's code goes to byte 9 (R75), with the temperature code of every mode the same (R72). For a
command with another mode, which no word decodes to the row, that the row's value stands in place of the operand's is
the model's choice (log entry 10). -/
def Obligations.ModeRowsComplete : Prop :=
  ∀ (s : State) (c : CommandState), s.status ≠ .fault →
    let k := s.cfg.val.code
    let b9 := fun code => byte9 code (codePower k c.power) (tempCode c.targetTemperature)
    CompletesWith (.encodeModeAuto c) s (b5Of s c) (b7Of s c) (b9 k.modeAuto) ∧
      CompletesWith (.encodeModeCool c) s (b5Of s c) (b7Of s c) (b9 k.modeCool) ∧
      CompletesWith (.encodeModeDry c) s (b5Of s c) (b7Of s c) (b9 k.modeDry) ∧
      CompletesWith (.encodeModeHeat c) s (b5Of s c) (b7Of s c) (b9 k.modeHeat) ∧
      CompletesWith (.encodeModeFanOnly c) s (b5Of s c) (b7Of s c) (b9 k.modeFanOnly) ∧
      CompletesWith (.encodeModeMaintenance c) s (b5Of s c) (b7Of s c) (b9 k.modeMaintenance)

/-- The fan rows: the row's code goes to byte 7 (R74). For a command with another fan value, which no word decodes to the
row, that the row's value stands in place of the operand's is the model's choice (log entry 10). -/
def Obligations.FanRowsComplete : Prop :=
  ∀ (s : State) (c : CommandState), s.status ≠ .fault →
    let k := s.cfg.val.code
    let b7 := fun code => byte7 code (codeVswing k c.vswing)
    CompletesWith (.encodeFanAuto c) s (b5Of s c) (b7 k.fanAuto) (b9Of s c) ∧
      CompletesWith (.encodeFanLow c) s (b5Of s c) (b7 k.fanLow) (b9Of s c) ∧
      CompletesWith (.encodeFanMid c) s (b5Of s c) (b7 k.fanMid) (b9Of s c) ∧
      CompletesWith (.encodeFanHigh c) s (b5Of s c) (b7 k.fanHigh) (b9Of s c) ∧
      CompletesWith (.encodeFanHiPower c) s (b5Of s c) (b7 k.fanHiPower) (b9Of s c) ∧
      CompletesWith (.encodeFanEcono c) s (b5Of s c) (b7 k.fanEcono) (b9Of s c)

/-- The vswing rows: the row's code goes to byte 5 and byte 7 through its two masks (R73, R74, R55). For a command with
another vswing value, which no word decodes to the row, that the row's value stands in place of the operand's is the
model's choice (log entry 10). -/
def Obligations.VswingRowsComplete : Prop :=
  ∀ (s : State) (c : CommandState), s.status ≠ .fault →
    let k := s.cfg.val.code
    let b5 := fun code => byte5 (codeHswing k c.hswing) code (codeClean k c.clean)
    let b7 := fun code => byte7 (codeFan k c.fan) code
    CompletesWith (.encodeVswingSwing c) s (b5 k.vswingSwing) (b7 k.vswingSwing) (b9Of s c) ∧
      CompletesWith (.encodeVswingUp c) s (b5 k.vswingUp) (b7 k.vswingUp) (b9Of s c) ∧
      CompletesWith (.encodeVswingMidUp c) s (b5 k.vswingMidUp) (b7 k.vswingMidUp) (b9Of s c) ∧
      CompletesWith (.encodeVswingMiddle c) s (b5 k.vswingMiddle) (b7 k.vswingMiddle) (b9Of s c) ∧
      CompletesWith (.encodeVswingMidDown c) s (b5 k.vswingMidDown) (b7 k.vswingMidDown) (b9Of s c) ∧
      CompletesWith (.encodeVswingDown c) s (b5 k.vswingDown) (b7 k.vswingDown) (b9Of s c) ∧
      CompletesWith (.encodeVswingStop c) s (b5 k.vswingStop) (b7 k.vswingStop) (b9Of s c)

/-- The hswing row and the clean rows: the row's code goes to byte 5 (R73). For a command with the other clean value,
which no word decodes to the row, that the row's value stands in place of the operand's is the model's choice (log
entry 10). -/
def Obligations.HswingAndCleanRowsComplete : Prop :=
  ∀ (s : State) (c : CommandState), s.status ≠ .fault →
    let k := s.cfg.val.code
    CompletesWith (.encodeHswingStop c) s
      (byte5 k.hswingStop (codeVswing k c.vswing) (codeClean k c.clean)) (b7Of s c) (b9Of s c) ∧
    CompletesWith (.encodeCleanOn c) s
      (byte5 (codeHswing k c.hswing) (codeVswing k c.vswing) k.cleanOn) (b7Of s c) (b9Of s c) ∧
    CompletesWith (.encodeCleanOff c) s
      (byte5 (codeHswing k c.hswing) (codeVswing k c.vswing) k.cleanOff) (b7Of s c) (b9Of s c)

/-- The temperature rows: byte 9 takes the code of the table of R71, the fallback row that of 24; no row faults. For a
command with another temperature, which no word decodes to the row (for the fallback row: one in range), that the row
runs with its own value, or with 24, is the model's choice (log entry 10). -/
def Obligations.TemperatureRowsComplete : Prop :=
  ∀ (s : State) (c : CommandState), s.status ≠ .fault →
    let k := s.cfg.val.code
    let b9 := byte9 (codeMode k c.mode) (codePower k c.power)
    let done := fun i code => CompletesWith i s (b5Of s c) (b7Of s c) (b9 code)
    done (.encodeTemp18 c) 0xE0#8 ∧ done (.encodeTemp19 c) 0xD0#8 ∧ done (.encodeTemp20 c) 0xC0#8 ∧
      done (.encodeTemp21 c) 0xB0#8 ∧ done (.encodeTemp22 c) 0xA0#8 ∧ done (.encodeTemp23 c) 0x90#8 ∧
      done (.encodeTemp24 c) 0x80#8 ∧ done (.encodeTemp25 c) 0x70#8 ∧ done (.encodeTemp26 c) 0x60#8 ∧
      done (.encodeTemp27 c) 0x50#8 ∧ done (.encodeTemp28 c) 0x40#8 ∧ done (.encodeTemp29 c) 0x30#8 ∧
      done (.encodeTemp30 c) 0x20#8 ∧ done (.encodeTempFallback c) 0x80#8

/-- The reserved rows take InvalidCommand, whose entry is their whole effect (R145), with every invalid part of the
word in CAUSE (R144). -/
def Obligations.ReservedRowsTakeInvalidCommand : Prop :=
  ∀ (s : State) (w : Word), s.status ≠ .fault →
    (numR w ≠ 0 → TakesInvalidCommand (.encodeReservedBits w) s w) ∧
    (numM w = 6 → TakesInvalidCommand (.encodeModeReserved6 w) s w) ∧
    (numM w = 7 → TakesInvalidCommand (.encodeModeReserved7 w) s w) ∧
    (numF w = 6 → TakesInvalidCommand (.encodeFanReserved6 w) s w) ∧
    (numF w = 7 → TakesInvalidCommand (.encodeFanReserved7 w) s w) ∧
    (numV w = 7 → TakesInvalidCommand (.encodeVswingReserved7 w) s w) ∧
    (numH w = 1 → TakesInvalidCommand (.encodeHswingReserved1 w) s w)

/-- R127, R21: RESET, in every status, leaves STATUS IDLE, CAUSE 0, ENV_LEN 0, no value in PAYLOAD and ENV, and the
configuration as it was; nothing else leads out of FAULT; and in status IDLE it changes nothing. -/
def Obligations.ResetClearsEveryLatch : Prop :=
  (∀ s : State, exec .reset s = .next (cleared s)) ∧
    (∀ (s t : State) (i : Instr), s.status = .fault → exec i s = .next t → t.status ≠ .fault → i = .reset) ∧
    (∀ s : State, LatchInvariant s → s.status = .idle → exec .reset s = .next s)

/-- R21: the state right after reset. The empty list of inputs is the model's choice (log entry 1). -/
def Obligations.ResetStateHasTheResetValues : Prop :=
  State.reset.status = .idle ∧ State.reset.cause = 0#5 ∧ State.reset.envLen = 0#16 ∧ State.reset.payload = none ∧
    (∀ j, memByte State.reset.env j = none) ∧ hostReadStatus State.reset = 0#2 ∧ State.reset.inputs = []

/-! ## Faults and independence -/

/-- R146: in FAULT nothing but RESET changes anything, and after RESET the block is as after power-on (the inputs still
to come are the host's). -/
def Obligations.FaultIsStickyUntilReset : Prop :=
  ∀ s : State, s.status = .fault →
    (∀ i : Instr, i ≠ .reset → exec i s = .next s) ∧
      exec .reset s = .next { State.powerOn s.cfg with inputs := s.inputs }

/-- A step leaves FAULT only by a sample with `reset = 1`, and then to IDLE. -/
def Obligations.OnlyResetLeavesFault : Prop :=
  ∀ s t : State, s.status = .fault → step s = .next t → t.status ≠ .fault →
    t.status = .idle ∧ ∃ p, s.inputs.head? = some p ∧ p.reset = true

/-- A step enters FAULT only by ENCODE of an illegal word. -/
def Obligations.OnlyIllegalWordsFault : Prop :=
  ∀ s t : State, s.status ≠ .fault → step s = .next t → t.status = .fault →
    ∃ p, s.inputs.head? = some p ∧ p.reset = false ∧ p.start = true ∧ ¬Legal p.cmdw ∧ CauseReports p.cmdw t.cause

/-- What an instruction leaves depends on nothing of the earlier latches but whether STATUS was FAULT (R10, R131). -/
def Obligations.EarlierResultsHaveNoInfluence : Prop :=
  ∀ (s u : State) (i : Instr), s.cfg = u.cfg → s.inputs = u.inputs → s.status ≠ .fault → u.status ≠ .fault →
    exec i s = exec i u

/-- Performing an instruction twice leaves what performing it once leaves: an ENCODE (R131), an InvalidCommand (R145,
R146) and a RESET (R127, R21). -/
def Obligations.RepeatingAnInstructionChangesNothing : Prop :=
  ∀ (s t : State) (i : Instr), exec i s = .next t → exec i t = .next t

/-- R131, second part: commands that differ only in temperatures that are out of range, or 24, give the same state. -/
def Obligations.OutOfRangeTemperatureActsAsTwentyFour : Prop :=
  ∀ (s : State) (c : CommandState) (t : Int), (t ≤ 17 ∨ 31 ≤ t) →
    exec (.encode { c with targetTemperature := t }) s = exec (.encode { c with targetTemperature := 24 }) s

/-! ## Invariants -/

/-- The relations between the latches hold at reset. -/
def Obligations.LatchInvariantAtReset : Prop := LatchInvariant State.reset

/-- Every step keeps the relations between the latches: the buffer's canonical form and bounds, CAUSE non-zero exactly
in FAULT, no value without a result, and with one a well-shaped payload whose envelope of 184 bytes is in ENV. -/
def Obligations.StepKeepsLatchInvariant : Prop :=
  ∀ s t : State, LatchInvariant s → step s = .next t → LatchInvariant t

/-! ## What the host reads -/

/-- R13, R19, R163: a read of PAYLOAD or ENV has a value exactly while STATUS is DONE and, in ENV, below ENV_LEN. The
named reasons, and that an index outside the two spaces faults, are the model's (log entries 4 and 8). -/
def Obligations.HostReadsOnlyResults : Prop :=
  ∀ s : State, LatchInvariant s →
    (∀ k, k < 11 → ((∃ b, hostReadPayload s k = .ok b) ↔ s.status = .done)) ∧
    (∀ k, k < 11 → s.status ≠ .done → hostReadPayload s k = .error .noValue) ∧
    (∀ k, 11 ≤ k → hostReadPayload s k = .error .noSuchIndex) ∧
    (∀ j, j < 362 → ((∃ b, hostReadEnv s j = .ok b) ↔ s.status = .done ∧ j < s.envLen.toNat)) ∧
    (∀ j, j < 362 → ¬(s.status = .done ∧ j < s.envLen.toNat) → hostReadEnv s j = .error .noValue) ∧
    (∀ j, 362 ≤ j → hostReadEnv s j = .error .noSuchIndex)

/-- R36: the layout of the envelope by index, as the host reads it after a completed transaction, with `B` the body's
byte count. -/
def Obligations.EnvelopeLayoutByIndex : Prop :=
  ∀ (s t : State) (c : CommandState), s.status ≠ .fault → exec (.encode c) s = .next t →
    ∃ f B, t.payload = some f ∧ t.envLen.toNat = B + 6 ∧ B = (fbBody (fbTrain s.cfg.val f)).length ∧
      hostReadEnv t 0 = .ok 0x26#8 ∧ hostReadEnv t 1 = .ok 0x00#8 ∧
      (∃ lo hi, hostReadEnv t 2 = .ok lo ∧ hostReadEnv t 3 = .ok hi ∧ lo.toNat = (B + 4) % 256 ∧
        hi.toNat = (B + 4) / 256 % 256) ∧
      (∀ j, j < B → (hostReadEnv t (4 + j)).toOption = (fbBody (fbTrain s.cfg.val f))[j]?) ∧
      hostReadEnv t (4 + B) = .ok 0x0D#8 ∧ hostReadEnv t (4 + B + 1) = .ok 0x05#8

/-- The host hands the whole envelope of the payload to the Transport, in order, and its length field read as one
number is two less than ENV_LEN (R133, R35, R109). -/
def Obligations.HostSendsTheWholeEnvelope : Prop :=
  ∀ s : State, LatchInvariant s → s.status = .done → ∃ f, s.payload = some f ∧
    hostEnvelope s = .ok (fbEnv s.cfg.val f) ∧ hostReadLength s = .ok (s.envLen.toNat - 2)

/-- The source's example in EVERY configuration that meets the constraints: all 11 payload bytes, envelope bytes 0 to 5
and 182 to 183, and the length 184 (V1, R53, R92). -/
def Obligations.SourceExampleInEveryConfiguration : Prop :=
  ∀ (s : State) (rest : List PortSample), s.inputs = ⟨exampleWord, true, false⟩ :: rest → s.status ≠ .fault →
    ∃ t f, step s = .next t ∧ t.status = .done ∧ t.cause = 0#5 ∧ t.payload = some f ∧
      f.toList = [0x52#8, 0xAE#8, 0xC3#8, 0x26#8, 0xD9#8, 0xFF#8, 0x00#8, 0xFF#8, 0x00#8, 0x8F#8, 0x70#8] ∧
      t.envLen = 184#16 ∧
      (List.range 6).map (hostReadEnv t) = [0x26#8, 0x00#8, 0xB6#8, 0x00#8, 0x6A#8, 0x35#8].map .ok ∧
      hostReadEnv t 182 = .ok 0x0D#8 ∧ hostReadEnv t 183 = .ok 0x05#8

/-! ## ParameterMapper -/

/-- R71: the temperature code as the source prints it and in closed form, for every integer; it occupies bits 7:4 only,
and the values it never takes. -/
def Obligations.TemperatureCodeClosedForm : Prop :=
  ∀ t : Int,
    pmTemp t = BitVec.ofInt 8 (-(((if 17 < t ∧ t < 31 then t else 24) - 17) * 16) - 1) &&& 0xF0#8 ∧
    pmTemp t = tempCode t ∧ pmTemp t &&& 0x0F#8 = 0#8 ∧
    pmTemp t ≠ 0x00#8 ∧ pmTemp t ≠ 0x10#8 ∧ pmTemp t ≠ 0xF0#8

/-- R79 and R77: in every payload, whatever the code table, the first five bytes are fixed and each data byte is
followed by its complement in 8 bits. -/
def Obligations.ChecksumsAndFixedHeader : Prop :=
  ∀ (k : CodeTable) (c : CommandState), FrameShape (pmEncode k c) ∧
    (pmEncode k c)[5].toNat + (pmEncode k c)[6].toNat = 255 ∧
    (pmEncode k c)[7].toNat + (pmEncode k c)[8].toNat = 255 ∧
    (pmEncode k c)[9].toNat + (pmEncode k c)[10].toNat = 255

/-- R80: the three data bytes determine the payload; 20 one-bits in bytes 0 to 4 and 24 in bytes 5 to 10, so 44 of the
88 bits, for every command and every code table. -/
def Obligations.PayloadHasFortyFourOnes : Prop :=
  ∀ (k : CodeTable) (c : CommandState), onesAll ((pmEncode k c).toList.take 5) = 20 ∧
    onesAll ((pmEncode k c).toList.drop 5) = 24 ∧ onesAll (pmEncode k c).toList = 44 ∧
    8 * (pmEncode k c).toList.length - onesAll (pmEncode k c).toList = 44 ∧
    ∀ d : CommandState, (pmEncode k c)[5] = (pmEncode k d)[5] → (pmEncode k c)[7] = (pmEncode k d)[7] →
      (pmEncode k c)[9] = (pmEncode k d)[9] → pmEncode k c = pmEncode k d

/-- R73, R74, R75, R78, R83: the payload of every command, from the code table's entries at the places of the
command's values; each lookup is that entry and depends on nothing else; and the result has exactly 11 bytes. -/
def Obligations.PayloadOfEveryCommand : Prop :=
  ∀ (k : CodeTable) (c : CommandState), ∃ power mode fan vswing clean : Byte,
    [k.powerOff, k.powerOn][powers.idxOf c.power]? = some power ∧ codePower k c.power = power ∧
    [k.modeAuto, k.modeCool, k.modeDry, k.modeHeat, k.modeFanOnly, k.modeMaintenance][modes.idxOf c.mode]? =
      some mode ∧ codeMode k c.mode = mode ∧
    [k.fanAuto, k.fanLow, k.fanMid, k.fanHigh, k.fanHiPower, k.fanEcono][fans.idxOf c.fan]? = some fan ∧
      codeFan k c.fan = fan ∧
    [k.vswingSwing, k.vswingUp, k.vswingMidUp, k.vswingMiddle, k.vswingMidDown, k.vswingDown,
      k.vswingStop][vswings.idxOf c.vswing]? = some vswing ∧ codeVswing k c.vswing = vswing ∧
    [k.cleanOn, k.cleanOff][cleans.idxOf c.clean]? = some clean ∧ codeClean k c.clean = clean ∧
    codeHswing k c.hswing = k.hswingStop ∧
    (pmEncode k c).toList = frame (byte5 k.hswingStop vswing clean) (byte7 fan vswing)
      (byte9 mode power (tempCode c.targetTemperature)) ∧
    (pmEncode k c).toList.length = 11

/-! ## PulseEncoder -/

/-- R91: scaling is the exact ceiling, in its two forms; exact when the base is a multiple of 8192 and strictly above
the product, by less than one, when it is not (R96); monotone; and the two thresholds. -/
def Obligations.ScaleIsTheExactCeiling : Prop :=
  (∀ u : Nat, (peScale u : Int) = ⌈(u * 269 : ℚ) / 8192⌉ ∧ peScale u = (u * 269 + 8191) / 8192) ∧
    (∀ u : Nat, 8192 ∣ u → 8192 * peScale u = u * 269) ∧
    (∀ u : Nat, ¬8192 ∣ u → u * 269 < 8192 * peScale u ∧ 8192 * peScale u < u * 269 + 8192) ∧
    (∀ u v : Nat, u ≤ v → peScale u ≤ peScale v) ∧
    (∀ u : Nat, 256 ≤ peScale u ↔ 7766 ≤ u) ∧ (∀ u : Nat, 65535 < peScale u ↔ 1995773 ≤ u)

/-- R92: the ranges of the bases that the source's constraints allow, in every configuration of this hardware. -/
def Obligations.TimingBasesInRange : Prop :=
  ∀ p : Config, 3198 ≤ p.val.tHdrMark ∧ p.val.tHdrMark ≤ 3228 ∧ 1584 ≤ p.val.tHdrSpace ∧ p.val.tHdrSpace ≤ 1614 ∧
    p.val.tBitMark ≤ 7765 ∧ p.val.tOneSpace ≤ 7765 ∧ p.val.tZeroSpace ≤ 7765

/-- R93, R94: bit `i` of a byte gives its pair, which stands in the 16 values of the byte at `2i`, always the bit mark,
and `2i + 1`, the space of the bit. -/
def Obligations.BytePulsesAreLeastSignificantBitFirst : Prop :=
  ∀ (p : Params) (b : Byte), (peByte p b).length = 16 ∧ ∀ i : Fin 8,
    let space := if b.toNat / 2 ^ i.val % 2 = 1 then peScale p.tOneSpace else peScale p.tZeroSpace
    peBit p b i = (peScale p.tBitMark, space) ∧
      (peByte p b)[2 * i.val]? = some (peScale p.tBitMark) ∧ (peByte p b)[2 * i.val + 1]? = some space

/-! ## FrameBuilder -/

/-- R106, R116: the train has 178 values, the header pair first, and the mark and space of bit `i` of payload byte `k`
at `2 + 16k + 2i` and `3 + 16k + 2i`; with one-byte items the item at position `q` has envelope index `4 + q`. -/
def Obligations.TrainPositions : Prop :=
  ∀ (p : Params) (f : PayloadFrame), (fbTrain p f).length = 178 ∧
    (fbTrain p f)[0]? = some (peScale p.tHdrMark) ∧ (fbTrain p f)[1]? = some (peScale p.tHdrSpace) ∧
    (∀ k i : Nat, k < 11 → i < 8 → ∃ b, f.toList[k]? = some b ∧
      (fbTrain p f)[2 + 16 * k + 2 * i]? = some (peScale p.tBitMark) ∧
      (fbTrain p f)[3 + 16 * k + 2 * i]? =
        some (if b.toNat / 2 ^ i % 2 = 1 then peScale p.tOneSpace else peScale p.tZeroSpace)) ∧
    ((∀ v ∈ fbTrain p f, v < 256) → ∀ q : Nat, q < 178 →
      (fbEnv p f)[4 + q]? = ((fbTrain p f)[q]?).map (BitVec.ofNat 8))

/-- R107: an item is one byte below 256 and else two, low byte first, with no other byte; so it holds the value. -/
def Obligations.DurationItem : Prop :=
  ∀ v : Nat, v ≤ 65535 →
    fbDur v = (if v < 256 then [BitVec.ofNat 8 v] else [BitVec.ofNat 8 (v % 256), BitVec.ofNat 8 (v / 256)]) ∧
    fbSize v = (fbDur v).length ∧ fbSize v = (if v < 256 then 1 else 2) ∧ littleEndian (fbDur v) = v

/-- R111: the sizes of a body and an envelope for an arbitrary payload and any parameters; the bounds; the body of a
command depends on the parameters alone; and in every configuration of this hardware all durations are below 256 and
the sizes are 178 and 184. -/
def Obligations.BodyAndEnvelopeSizes : Prop :=
  (∀ (p : Params) (f : PayloadFrame),
    let sz := fun u => if peScale u < 256 then 1 else 2
    let B := (fbBody (fbTrain p f)).length
    let z := onesAll f.toList
    B = sz p.tHdrMark + sz p.tHdrSpace + 88 * sz p.tBitMark + z * sz p.tOneSpace + (88 - z) * sz p.tZeroSpace ∧
      z ≤ 88 ∧ 178 ≤ B ∧ B ≤ 356 ∧ fbLen (fbBody (fbTrain p f)) = B + 4 ∧ (fbEnv p f).length = B + 6 ∧
      (fbTrain p f).length = 178) ∧
  (∀ (p : Params) (c d : CommandState), (fbEnv p (pmEncode p.code c)).length = (fbEnv p (pmEncode p.code d)).length) ∧
  (∀ (p : Config) (f : PayloadFrame), (∀ v ∈ fbTrain p.val f, v < 256) ∧
    (fbBody (fbTrain p.val f)).length = 178 ∧ (fbEnv p.val f).length = 184)

/-- R110 (C11): the envelope is the six fixed-place bytes around the body; it is injective in the payload when the two
spaces differ and are both below 256, and constant in it when they are equal. -/
def Obligations.EnvelopeTellsPayloadsApart : Prop :=
  ∀ p : Params,
    (∀ f : PayloadFrame,
      let y := fbBody (fbTrain p f)
      let L := y.length + 4
      fbEnv p f = [0x26#8, 0x00#8, BitVec.ofNat 8 (L % 256), BitVec.ofNat 8 (L / 256)] ++ y ++ [0x0D#8, 0x05#8]) ∧
    (peScale p.tOneSpace ≠ peScale p.tZeroSpace → peScale p.tOneSpace < 256 → peScale p.tZeroSpace < 256 →
      ∀ f g : PayloadFrame, fbEnv p f = fbEnv p g → f = g) ∧
    (peScale p.tOneSpace = peScale p.tZeroSpace → ∀ f g : PayloadFrame, fbEnv p f = fbEnv p g)

/-- R113: with well-formed parameters every duration of a train is at most 65535, and its item holds all of it. -/
def Obligations.EveryDurationFits : Prop :=
  ∀ (p : Params) (f : PayloadFrame), p.WellFormed → ∀ v ∈ fbTrain p f, v ≤ 65535 ∧ littleEndian (fbDur v) = v

/-- R167: the durations of a command's train have one sum, whatever the command. -/
def Obligations.TrainSumIsTheSameForEveryCommand : Prop :=
  ∀ (p : Params) (c : CommandState), (fbTrain p (pmEncode p.code c)).sum =
    peScale p.tHdrMark + peScale p.tHdrSpace + 88 * peScale p.tBitMark + 44 * peScale p.tOneSpace +
      44 * peScale p.tZeroSpace

/-! ## Configuration and front end -/

/-- R154, R113: parameters are refused before there is a block to run exactly when a scaled constant does not fit or a
constraint of the source is broken. The two names are the model's (log entry 3). -/
def Obligations.ConfigureRefusesOtherParameters : Prop :=
  ∀ p : Params, ((∃ c : Config, configure p = .ok c ∧ c.val = p) ↔ p.Conforming) ∧
    (configure p = .error .illFormedConfiguration ↔ ¬p.WellFormed) ∧
    (configure p = .error .nonConformingConfiguration ↔ p.WellFormed ∧ ¬p.Conforming)

/-- R60, R61: a line of a program, assembled, selects its operation; a temperature no word can carry is not
assembled. -/
def Obligations.AssembledLinesSelectTheirOperation : Prop :=
  (∀ c : CommandState, c.representable = true →
    ((assemble (.encode c)).bind decodePorts) = some (.encode c)) ∧
  (∀ c : CommandState, c.representable = false → assemble (.encode c) = none) ∧
  (∀ (power : Power) (fan : Fan) (v : VSwing) (h : HSwing) (cl : Clean) (t : Int),
    assemble (.encodeModeOmitted power fan v h cl t) = assemble (.encode ⟨power, .auto, fan, v, h, cl, t⟩)) ∧
  (∀ w : Word, (assemble (.encodeW w)).bind decodePorts = some (decodeWord w)) ∧
  (assemble .reset).bind decodePorts = some .reset
end

