-- ==== Sys2Proof/Laws/Encoding.lean ====
section
/-!
SUPPORT. The fields of an encoded command word (`30_encoding.md` R47), and the masks of the opcode table as fields.
-/

namespace Sys2Proof.Machine

section
variable (p : BitVec 1) (m f v : BitVec 3) (h c : BitVec 1) (t : BitVec 16)

@[simp] theorem fieldP_word : fieldP (wordOfFields p m f v h c t) = p := by
  apply BitVec.eq_of_getLsbD_eq
  intro i hi
  interval_cases i; simp [fieldP, wordOfFields]

@[simp] theorem fieldM_word : fieldM (wordOfFields p m f v h c t) = m := by
  apply BitVec.eq_of_getLsbD_eq
  intro i hi
  interval_cases i <;> simp [fieldM, wordOfFields]

@[simp] theorem fieldF_word : fieldF (wordOfFields p m f v h c t) = f := by
  apply BitVec.eq_of_getLsbD_eq
  intro i hi
  interval_cases i <;> simp [fieldF, wordOfFields]

@[simp] theorem fieldV_word : fieldV (wordOfFields p m f v h c t) = v := by
  apply BitVec.eq_of_getLsbD_eq
  intro i hi
  interval_cases i <;> simp [fieldV, wordOfFields]

@[simp] theorem fieldH_word : fieldH (wordOfFields p m f v h c t) = h := by
  apply BitVec.eq_of_getLsbD_eq
  intro i hi
  interval_cases i; simp [fieldH, wordOfFields]

@[simp] theorem fieldC_word : fieldC (wordOfFields p m f v h c t) = c := by
  apply BitVec.eq_of_getLsbD_eq
  intro i hi
  interval_cases i; simp [fieldC, wordOfFields]

@[simp] theorem fieldR_word : fieldR (wordOfFields p m f v h c t) = 0#4 := by
  apply BitVec.eq_of_getLsbD_eq
  intro i hi
  interval_cases i <;> simp [fieldR, wordOfFields]

@[simp] theorem fieldT_word : fieldT (wordOfFields p m f v h c t) = t := by
  apply BitVec.eq_of_getLsbD_eq
  intro i hi
  interval_cases i <;> simp [fieldT, wordOfFields]

end

section
variable (w : Word)

theorem mask_P : w &&& 0x00000001#32 = (fieldP w).setWidth 32 := by
  apply BitVec.eq_of_getLsbD_eq
  intro i hi
  interval_cases i <;> simp [fieldP]

theorem mask_M : w &&& 0x0000000E#32 = (fieldM w).setWidth 32 <<< 1 := by
  apply BitVec.eq_of_getLsbD_eq
  intro i hi
  interval_cases i <;> simp [fieldM]

theorem mask_F : w &&& 0x00000070#32 = (fieldF w).setWidth 32 <<< 4 := by
  apply BitVec.eq_of_getLsbD_eq
  intro i hi
  interval_cases i <;> simp [fieldF]

theorem mask_V : w &&& 0x00000380#32 = (fieldV w).setWidth 32 <<< 7 := by
  apply BitVec.eq_of_getLsbD_eq
  intro i hi
  interval_cases i <;> simp [fieldV]

theorem mask_H : w &&& 0x00000400#32 = (fieldH w).setWidth 32 <<< 10 := by
  apply BitVec.eq_of_getLsbD_eq
  intro i hi
  interval_cases i <;> simp [fieldH]

theorem mask_C : w &&& 0x00000800#32 = (fieldC w).setWidth 32 <<< 11 := by
  apply BitVec.eq_of_getLsbD_eq
  intro i hi
  interval_cases i <;> simp [fieldC]

theorem mask_R : w &&& 0x0000F000#32 = (fieldR w).setWidth 32 <<< 12 := by
  apply BitVec.eq_of_getLsbD_eq
  intro i hi
  interval_cases i <;> simp [fieldR]

theorem mask_T : w &&& 0xFFFF0000#32 = (fieldT w).setWidth 32 <<< 16 := by
  apply BitVec.eq_of_getLsbD_eq
  intro i hi
  interval_cases i <;> simp [fieldT]

end

end Sys2Proof.Machine
end

