-- ==== Sys2Proof/Laws/State.lean ====
section
/-!
SUPPORT. One lemma per field of State per update, each true by rfl, so that no later proof unfolds a record update.
-/

namespace Sys2Proof.Machine

variable (s : State)

@[simp] theorem commit_cfg (f : PayloadFrame) (e : List Byte) : (commit f e s).cfg = s.cfg := rfl
@[simp] theorem commit_payload (f : PayloadFrame) (e : List Byte) : (commit f e s).payload = some f := rfl
@[simp] theorem commit_env (f : PayloadFrame) (e : List Byte) : (commit f e s).env = memPutAll 0 e [] := rfl
@[simp] theorem commit_envLen (f : PayloadFrame) (e : List Byte) : (commit f e s).envLen = BitVec.ofNat 16 e.length := rfl
@[simp] theorem commit_status (f : PayloadFrame) (e : List Byte) : (commit f e s).status = .done := rfl
@[simp] theorem commit_cause (f : PayloadFrame) (e : List Byte) : (commit f e s).cause = 0#5 := rfl
@[simp] theorem commit_inputs (f : PayloadFrame) (e : List Byte) : (commit f e s).inputs = s.inputs := rfl

@[simp] theorem takeInvalidCommand_cfg (cause : BitVec 5) : (takeInvalidCommand cause s).cfg = s.cfg := rfl
@[simp] theorem takeInvalidCommand_payload (cause : BitVec 5) : (takeInvalidCommand cause s).payload = none := rfl
@[simp] theorem takeInvalidCommand_env (cause : BitVec 5) : (takeInvalidCommand cause s).env = [] := rfl
@[simp] theorem takeInvalidCommand_envLen (cause : BitVec 5) : (takeInvalidCommand cause s).envLen = 0#16 := rfl
@[simp] theorem takeInvalidCommand_status (cause : BitVec 5) : (takeInvalidCommand cause s).status = .fault := rfl
@[simp] theorem takeInvalidCommand_cause (cause : BitVec 5) : (takeInvalidCommand cause s).cause = cause := rfl
@[simp] theorem takeInvalidCommand_inputs (cause : BitVec 5) : (takeInvalidCommand cause s).inputs = s.inputs := rfl

@[simp] theorem resetLatches_cfg : (resetLatches s).cfg = s.cfg := rfl
@[simp] theorem resetLatches_payload : (resetLatches s).payload = none := rfl
@[simp] theorem resetLatches_env : (resetLatches s).env = [] := rfl
@[simp] theorem resetLatches_envLen : (resetLatches s).envLen = 0#16 := rfl
@[simp] theorem resetLatches_status : (resetLatches s).status = .idle := rfl
@[simp] theorem resetLatches_cause : (resetLatches s).cause = 0#5 := rfl
@[simp] theorem resetLatches_inputs : (resetLatches s).inputs = s.inputs := rfl

@[simp] theorem present_cfg (p : PortSample) : (present p s).cfg = s.cfg := rfl
@[simp] theorem present_payload (p : PortSample) : (present p s).payload = s.payload := rfl
@[simp] theorem present_env (p : PortSample) : (present p s).env = s.env := rfl
@[simp] theorem present_envLen (p : PortSample) : (present p s).envLen = s.envLen := rfl
@[simp] theorem present_status (p : PortSample) : (present p s).status = s.status := rfl
@[simp] theorem present_cause (p : PortSample) : (present p s).cause = s.cause := rfl
@[simp] theorem present_inputs (p : PortSample) : (present p s).inputs = p :: s.inputs := rfl

@[simp] theorem withFetchWord_cfg (n w : Nat) : (s.withFetchWord n w).cfg = s.cfg := rfl
@[simp] theorem withFetchWord_payload (n w : Nat) : (s.withFetchWord n w).payload = s.payload := rfl
@[simp] theorem withFetchWord_env (n w : Nat) : (s.withFetchWord n w).env = s.env := rfl
@[simp] theorem withFetchWord_envLen (n w : Nat) : (s.withFetchWord n w).envLen = s.envLen := rfl
@[simp] theorem withFetchWord_status (n w : Nat) : (s.withFetchWord n w).status = s.status := rfl
@[simp] theorem withFetchWord_cause (n w : Nat) : (s.withFetchWord n w).cause = s.cause := rfl
@[simp] theorem withFetchWord_inputs (n w : Nat) : (s.withFetchWord n w).inputs = samplesOfBits n w ++ s.inputs := rfl

variable (cfg : Config)

@[simp] theorem powerOn_cfg : (State.powerOn cfg).cfg = cfg := rfl
@[simp] theorem powerOn_payload : (State.powerOn cfg).payload = none := rfl
@[simp] theorem powerOn_env : (State.powerOn cfg).env = [] := rfl
@[simp] theorem powerOn_envLen : (State.powerOn cfg).envLen = 0#16 := rfl
@[simp] theorem powerOn_status : (State.powerOn cfg).status = .idle := rfl
@[simp] theorem powerOn_cause : (State.powerOn cfg).cause = 0#5 := rfl
@[simp] theorem powerOn_inputs : (State.powerOn cfg).inputs = [] := rfl

/-- RESET gives the power-on state, but for the inputs still to come (R160). -/
theorem resetLatches_eq_powerOn : resetLatches s = { State.powerOn s.cfg with inputs := s.inputs } := rfl

end Sys2Proof.Machine
end

