-- ==== Sys2Proof/Laws/Ops.lean ====
section
/-!
SUPPORT. What each shared operation can do, said once: the provers cite these and do not unfold the operations.
-/

namespace Sys2Proof.Machine

variable {s t u : State}

/-- Outside FAULT an ENCODE has its effect (R126). -/
theorem unlessFault_ready (h : s.status ≠ .fault) : unlessFault s t = .next t := if_neg h

/-- In FAULT it has none (R132). -/
theorem unlessFault_fault (h : s.status = .fault) : unlessFault s t = .next s := if_pos h

/-- All that a guarded operation can do: keep the state in FAULT, or take the new one. -/
theorem unlessFault_cases (h : unlessFault s t = .next u) :
    (s.status = .fault ∧ u = s) ∨ (s.status ≠ .fault ∧ u = t) := by
  unfold unlessFault at h
  split at h <;> cases h
  · exact .inl ⟨‹_›, rfl⟩
  · exact .inr ⟨‹_›, rfl⟩

/-- A transaction on a command outside FAULT (R126). -/
theorem transact_ready (c : CommandState) (h : s.status ≠ .fault) :
    transact c s = .next (commit (payloadOf s c) (envelopeOf s c) s) := unlessFault_ready h

/-- A transaction in FAULT (R132). -/
theorem transact_fault (c : CommandState) (h : s.status = .fault) : transact c s = .next s := unlessFault_fault h

/-- All that a transaction on a command can do. -/
theorem transact_cases {c : CommandState} (h : transact c s = .next u) :
    (s.status = .fault ∧ u = s) ∨
      (s.status ≠ .fault ∧ u = commit (payloadOf s c) (envelopeOf s c) s) := unlessFault_cases h

/-- A transaction on an invalid word outside FAULT (R145). -/
theorem rejectCommand_ready (k : BitVec 5) (h : s.status ≠ .fault) :
    rejectCommand k s = .next (takeInvalidCommand k s) := unlessFault_ready h

/-- The same in FAULT (R132). -/
theorem rejectCommand_fault (k : BitVec 5) (h : s.status = .fault) : rejectCommand k s = .next s :=
  unlessFault_fault h

/-- All that a transaction on an invalid word can do. -/
theorem rejectCommand_cases {k : BitVec 5} (h : rejectCommand k s = .next u) :
    (s.status = .fault ∧ u = s) ∨ (s.status ≠ .fault ∧ u = takeInvalidCommand k s) := unlessFault_cases h

/-- The payload depends on the state through its configuration only (R10). -/
theorem payloadOf_congr (h : s.cfg = t.cfg) (c : CommandState) : payloadOf s c = payloadOf t c := by
  simp only [payloadOf, h]

/-- The envelope depends on the state through its configuration only (R10). -/
theorem envelopeOf_congr (h : s.cfg = t.cfg) (c : CommandState) : envelopeOf s c = envelopeOf t c := by
  simp only [envelopeOf, payloadOf_congr h c, h]


end Sys2Proof.Machine
end

