-- ==== Sys2Proof/Laws/Exec.lean ====
section
/-!
SUPPORT. What `exec` and `step` can do, said once over all constructors of Instr: every instruction is RESET, a
transaction on one command, or a transaction on an invalid word.
-/

namespace Sys2Proof.Machine

/-- The three kinds of operation (R126, R127, R145). -/
inductive Work where
  | reset
  | command (c : CommandState)
  | invalid (cause : BitVec 5)
deriving DecidableEq, Repr

/-- What an operation does. -/
def Work.run : Work → State → Host.Outcome State Fault Refusal
  | .reset, s => .next (resetLatches s)
  | .command c, s => transact c s
  | .invalid k, s => rejectCommand k s

/-- The operation of each instruction. -/
def workOf : Instr → Work
  | .encode c => .command c
  | .reset => .reset
  | .encodeReservedBits w => .invalid (causeOf w ||| badReserved)
  | .encodePowerOff c => .command { c with power := .off }
  | .encodePowerOn c => .command { c with power := .on }
  | .encodeModeAuto c => .command { c with mode := .auto }
  | .encodeModeCool c => .command { c with mode := .cool }
  | .encodeModeDry c => .command { c with mode := .dry }
  | .encodeModeHeat c => .command { c with mode := .heat }
  | .encodeModeFanOnly c => .command { c with mode := .fanOnly }
  | .encodeModeMaintenance c => .command { c with mode := .maintenance }
  | .encodeModeReserved6 w => .invalid (causeOf w ||| badMode)
  | .encodeModeReserved7 w => .invalid (causeOf w ||| badMode)
  | .encodeFanAuto c => .command { c with fan := .auto }
  | .encodeFanLow c => .command { c with fan := .low }
  | .encodeFanMid c => .command { c with fan := .mid }
  | .encodeFanHigh c => .command { c with fan := .high }
  | .encodeFanHiPower c => .command { c with fan := .hiPower }
  | .encodeFanEcono c => .command { c with fan := .econo }
  | .encodeFanReserved6 w => .invalid (causeOf w ||| badFan)
  | .encodeFanReserved7 w => .invalid (causeOf w ||| badFan)
  | .encodeVswingSwing c => .command { c with vswing := .swing }
  | .encodeVswingUp c => .command { c with vswing := .up }
  | .encodeVswingMidUp c => .command { c with vswing := .midUp }
  | .encodeVswingMiddle c => .command { c with vswing := .middle }
  | .encodeVswingMidDown c => .command { c with vswing := .midDown }
  | .encodeVswingDown c => .command { c with vswing := .down }
  | .encodeVswingStop c => .command { c with vswing := .stop }
  | .encodeVswingReserved7 w => .invalid (causeOf w ||| badVswing)
  | .encodeHswingStop c => .command { c with hswing := .stop }
  | .encodeHswingReserved1 w => .invalid (causeOf w ||| badHswing)
  | .encodeCleanOn c => .command { c with clean := .on }
  | .encodeCleanOff c => .command { c with clean := .off }
  | .encodeTemp18 c => .command { c with targetTemperature := 18 }
  | .encodeTemp19 c => .command { c with targetTemperature := 19 }
  | .encodeTemp20 c => .command { c with targetTemperature := 20 }
  | .encodeTemp21 c => .command { c with targetTemperature := 21 }
  | .encodeTemp22 c => .command { c with targetTemperature := 22 }
  | .encodeTemp23 c => .command { c with targetTemperature := 23 }
  | .encodeTemp24 c => .command { c with targetTemperature := 24 }
  | .encodeTemp25 c => .command { c with targetTemperature := 25 }
  | .encodeTemp26 c => .command { c with targetTemperature := 26 }
  | .encodeTemp27 c => .command { c with targetTemperature := 27 }
  | .encodeTemp28 c => .command { c with targetTemperature := 28 }
  | .encodeTemp29 c => .command { c with targetTemperature := 29 }
  | .encodeTemp30 c => .command { c with targetTemperature := 30 }
  | .encodeTempFallback c => .command { c with targetTemperature := fixedParams.tDefault }
  | .payloadFrame c => .command c
  | .envelopeFrame c => .command c

/-- Every instruction does what its operation does. -/
theorem exec_eq_run (i : Instr) (s : State) : exec i s = (workOf i).run s := by
  cases i <;> rfl

/-- Every operation answers a next state. -/
theorem run_next (k : Work) (s : State) : ∃ t, k.run s = .next t := by
  cases k with
  | reset => exact ⟨_, rfl⟩
  | command c =>
    by_cases h : s.status = .fault
    · exact ⟨_, transact_fault c h⟩
    · exact ⟨_, transact_ready c h⟩
  | invalid k =>
    by_cases h : s.status = .fault
    · exact ⟨_, rejectCommand_fault k h⟩
    · exact ⟨_, rejectCommand_ready k h⟩

/-- All that an instruction can do: reset the latches, keep the state in FAULT, write a result, or take
InvalidCommand. -/
theorem exec_cases {i : Instr} {s t : State} (h : exec i s = .next t) :
    t = resetLatches s ∨ (s.status = .fault ∧ t = s) ∨
      (s.status ≠ .fault ∧ ∃ c, t = commit (payloadOf s c) (envelopeOf s c) s) ∨
      (s.status ≠ .fault ∧ ∃ k, workOf i = .invalid k ∧ t = takeInvalidCommand k s) := by
  rw [exec_eq_run] at h
  cases hk : workOf i with
  | reset =>
    rw [hk] at h
    exact .inl (by cases h; rfl)
  | command c =>
    rw [hk] at h
    rcases transact_cases h with h | ⟨hf, rfl⟩
    · exact .inr (.inl h)
    · exact .inr (.inr (.inl ⟨hf, c, rfl⟩))
  | invalid k =>
    rw [hk] at h
    rcases rejectCommand_cases h with h | ⟨hf, rfl⟩
    · exact .inr (.inl h)
    · exact .inr (.inr (.inr ⟨hf, k, rfl, rfl⟩))

/-- All that a step can do: nothing but drop a sample, or one instruction (R132, R126, R127). -/
theorem step_cases {s t : State} (h : step s = .next t) :
    (s.inputs = [] ∧ t = s) ∨
      ∃ p rest, s.inputs = p :: rest ∧
        ((decodePorts p = none ∧ t = { s with inputs := rest }) ∨
          ∃ i, decodePorts p = some i ∧ exec i { s with inputs := rest } = .next t) := by
  unfold step takeSample at h
  cases hs : s.inputs with
  | nil =>
    simp only [hs] at h
    cases h
    exact .inl ⟨rfl, rfl⟩
  | cons p rest =>
    simp only [hs] at h
    refine .inr ⟨p, rest, rfl, ?_⟩
    cases hp : decodePorts p with
    | none => simp only [hp] at h; cases h; exact .inl ⟨rfl, rfl⟩
    | some i => simp only [hp] at h; exact .inr ⟨i, rfl, h⟩

end Sys2Proof.Machine
end

