-- ==== Sys2Proof/Laws/Memory.lean ====
section
/-!
SUPPORT. The laws of the output buffer: a read after a write, and that every memory operation keeps the canonical
form.
-/

namespace Sys2Proof.Machine

variable (a j : Nat) (b : Byte)

@[simp] theorem memByte_nil : memByte [] j = none := rfl

@[simp] theorem memByte_cons (x : Host.Cell) (m : Mem) :
    memByte (x :: m) j = if x.1 = j then some x.2 else memByte m j := rfl

/-- A write sets the byte it names and no other. -/
@[simp] theorem memByte_memPut (m : Mem) :
    memByte (memPut a b m) j = if a = j then some b else memByte m j := by
  induction m with
  | nil => simp [memPut]
  | cons x m ih =>
    unfold memPut
    split
    · simp
    · split
      · rename_i _ h; subst h; simp only [memByte_cons]; split <;> simp_all
      · simp only [memByte_cons, ih]; split <;> simp_all

/-- Successive writes set their bytes and no other. -/
theorem memByte_memPutAll (bs : List Byte) : ∀ (a : Nat) (m : Mem),
    memByte (memPutAll a bs m) j = if a ≤ j ∧ j < a + bs.length then bs[j - a]? else memByte m j := by
  induction bs with
  | nil => intro a m; simp [memPutAll]
  | cons b bs ih =>
    intro a m
    rw [memPutAll, ih, memByte_memPut]
    rcases Nat.lt_trichotomy a j with h | rfl | h
    · have e : j - a = (j - (a + 1)) + 1 := by omega
      rw [e, List.getElem?_cons_succ, if_neg (show a ≠ j by omega)]
      simp only [List.length_cons]
      split <;> rename_i h1
      · rw [if_pos (by omega)]
      · rw [if_neg (by omega)]
    · rw [if_neg (by omega), if_pos rfl, if_pos (by simp), Nat.sub_self, List.getElem?_cons_zero]
    · simp only [List.length_cons]
      rw [if_neg (by omega), if_neg (by omega), if_neg (by omega)]

/-- What a completed ENCODE leaves in the buffer: the envelope's bytes from index 0, and no other (R126, R19). -/
@[simp] theorem memByte_envelope (e : List Byte) : memByte (memPutAll 0 e []) j = e[j]? := by
  rw [memByte_memPutAll]
  split <;> rename_i h
  · simp
  · rw [memByte_nil, List.getElem?_eq_none (by omega)]

/-- The indices a write lists are its own and those listed before. -/
theorem mem_memPut {m : Mem} {x : Host.Cell} (h : x ∈ memPut a b m) : x.1 = a ∨ x ∈ m := by
  induction m with
  | nil => left; simp_all [memPut]
  | cons y m ih =>
    unfold memPut at h
    split at h
    · rcases List.mem_cons.1 h with rfl | h
      · exact .inl rfl
      · exact .inr h
    · split at h
      · rcases List.mem_cons.1 h with rfl | h
        · exact .inl rfl
        · exact .inr (List.mem_cons_of_mem _ h)
      · rcases List.mem_cons.1 h with rfl | h
        · exact .inr List.mem_cons_self
        · rcases ih h with h | h
          · exact .inl h
          · exact .inr (List.mem_cons_of_mem _ h)

/-- The canonical form says that the indices are pairwise rising. -/
theorem memSorted_iff (m : Mem) : memSorted m = true ↔ m.Pairwise (fun x y => x.1 < y.1) := by
  induction m with
  | nil => simp [memSorted]
  | cons x m ih =>
    cases m with
    | nil => simp [memSorted]
    | cons y m =>
      rw [memSorted, Bool.and_eq_true, decide_eq_true_iff, ih, List.pairwise_cons (l := y :: m)]
      refine and_congr_left fun h => ⟨fun hxy z hz => ?_, fun hx => hx y List.mem_cons_self⟩
      rcases List.mem_cons.1 hz with rfl | hz
      · exact hxy
      · exact Nat.lt_trans hxy ((List.pairwise_cons.1 h).1 z hz)

/-- A write keeps the canonical form. -/
theorem memPut_sorted {m : Mem} (h : memSorted m = true) : memSorted (memPut a b m) = true := by
  rw [memSorted_iff] at *
  induction m with
  | nil => simp [memPut]
  | cons x m ih =>
    obtain ⟨hx, hm⟩ := List.pairwise_cons.1 h
    unfold memPut
    split
    · rename_i hlt
      refine List.pairwise_cons.2 ⟨fun z hz => ?_, h⟩
      rcases List.mem_cons.1 hz with rfl | hz
      · exact hlt
      · exact Nat.lt_trans hlt (hx z hz)
    · split
      · rename_i _ heq
        subst heq
        exact List.pairwise_cons.2 ⟨hx, hm⟩
      · refine List.pairwise_cons.2 ⟨fun z hz => ?_, ih hm⟩
        rcases mem_memPut a b hz with h | h
        · omega
        · exact hx z h

/-- Successive writes keep the canonical form. -/
theorem memPutAll_sorted (bs : List Byte) : ∀ (a : Nat) {m : Mem}, memSorted m = true →
    memSorted (memPutAll a bs m) = true := by
  induction bs with
  | nil => intro a m h; exact h
  | cons b bs ih => intro a m h; exact ih (a + 1) (memPut_sorted a b h)

/-- Successive writes list their own indices and those listed before. -/
theorem mem_memPutAll (bs : List Byte) : ∀ (a : Nat) {m : Mem} {x : Host.Cell}, x ∈ memPutAll a bs m →
    (a ≤ x.1 ∧ x.1 < a + bs.length) ∨ x ∈ m := by
  induction bs with
  | nil => intro a m x h; exact .inr h
  | cons b bs ih =>
    intro a m x h
    rcases ih (a + 1) h with h | h
    · left; simp only [List.length_cons]; omega
    · rcases mem_memPut a b h with h | h
      · left; simp only [List.length_cons]; omega
      · exact .inr h

/-- A read of more bytes reads the first and then the rest, the first least significant (R32). -/
theorem memRead_succ (m : Mem) (n : Nat) : memRead m a (n + 1) =
    (memByte m a).bind fun b => (memRead m (a + 1) n).map fun r => b.toNat + 256 * r := by
  rw [memRead]
  cases memByte m a <;> cases memRead m (a + 1) n <;> rfl

/-- Reset memory is canonical. -/
theorem reset_env_sorted : memSorted State.reset.env = true := rfl

end Sys2Proof.Machine
end

