-- ==== Sys2Proof/Laws/PerInstr.lean ====
section
/-!
SUPPORT. One lemma per instruction: the word of a well-formed instruction passes the test that its row of
`spec/opcode_table.json` makes (its mask and match).
-/

namespace Sys2Proof.Laws.RowMatch

open Sys2Proof Sys2Proof.Machine

/-- The encoder writes the bits that the instruction's row fixes. -/
def Statement (i : Instr) : Prop := i.wellFormed = true → (rowTest i).holds (encodeWord i) = true

theorem encode (c : CommandState) : Statement (.encode c) := fun _ =>
  decide_eq_true (by rw [encodeWord, encodeCmdw, mask_R, fieldR_word]; rfl)

theorem reset : Statement .reset := fun _ => rfl

theorem encodeReservedBits (w : Word) : Statement (.encodeReservedBits w) := fun h => by
  simp only [Instr.wellFormed, decide_eq_true_eq] at h
  refine decide_eq_true fun e => h ?_
  rw [encodeWord, mask_R] at e
  apply BitVec.eq_of_getLsbD_eq
  intro i hi
  have := congrArg (fun x => x.getLsbD (i + 12)) e
  interval_cases i <;> simpa using this

theorem encodePowerOff (c : CommandState) : Statement (.encodePowerOff c) := fun _ =>
  decide_eq_true (by rw [encodeWord, encodeCmdw, mask_P, fieldP_word]; rfl)

theorem encodePowerOn (c : CommandState) : Statement (.encodePowerOn c) := fun _ =>
  decide_eq_true (by rw [encodeWord, encodeCmdw, mask_P, fieldP_word]; rfl)

theorem encodeModeAuto (c : CommandState) : Statement (.encodeModeAuto c) := fun _ =>
  decide_eq_true (by rw [encodeWord, encodeCmdw, mask_M, fieldM_word]; rfl)

theorem encodeModeCool (c : CommandState) : Statement (.encodeModeCool c) := fun _ =>
  decide_eq_true (by rw [encodeWord, encodeCmdw, mask_M, fieldM_word]; rfl)

theorem encodeModeDry (c : CommandState) : Statement (.encodeModeDry c) := fun _ =>
  decide_eq_true (by rw [encodeWord, encodeCmdw, mask_M, fieldM_word]; rfl)

theorem encodeModeHeat (c : CommandState) : Statement (.encodeModeHeat c) := fun _ =>
  decide_eq_true (by rw [encodeWord, encodeCmdw, mask_M, fieldM_word]; rfl)

theorem encodeModeFanOnly (c : CommandState) : Statement (.encodeModeFanOnly c) := fun _ =>
  decide_eq_true (by rw [encodeWord, encodeCmdw, mask_M, fieldM_word]; rfl)

theorem encodeModeMaintenance (c : CommandState) : Statement (.encodeModeMaintenance c) := fun _ =>
  decide_eq_true (by rw [encodeWord, encodeCmdw, mask_M, fieldM_word]; rfl)

theorem encodeModeReserved6 (w : Word) : Statement (.encodeModeReserved6 w) := fun h => by
  simp only [Instr.wellFormed, decide_eq_true_eq] at h
  exact decide_eq_true (by rw [encodeWord, mask_M, h]; rfl)

theorem encodeModeReserved7 (w : Word) : Statement (.encodeModeReserved7 w) := fun h => by
  simp only [Instr.wellFormed, decide_eq_true_eq] at h
  exact decide_eq_true (by rw [encodeWord, mask_M, h]; rfl)

theorem encodeFanAuto (c : CommandState) : Statement (.encodeFanAuto c) := fun _ =>
  decide_eq_true (by rw [encodeWord, encodeCmdw, mask_F, fieldF_word]; rfl)

theorem encodeFanLow (c : CommandState) : Statement (.encodeFanLow c) := fun _ =>
  decide_eq_true (by rw [encodeWord, encodeCmdw, mask_F, fieldF_word]; rfl)

theorem encodeFanMid (c : CommandState) : Statement (.encodeFanMid c) := fun _ =>
  decide_eq_true (by rw [encodeWord, encodeCmdw, mask_F, fieldF_word]; rfl)

theorem encodeFanHigh (c : CommandState) : Statement (.encodeFanHigh c) := fun _ =>
  decide_eq_true (by rw [encodeWord, encodeCmdw, mask_F, fieldF_word]; rfl)

theorem encodeFanHiPower (c : CommandState) : Statement (.encodeFanHiPower c) := fun _ =>
  decide_eq_true (by rw [encodeWord, encodeCmdw, mask_F, fieldF_word]; rfl)

theorem encodeFanEcono (c : CommandState) : Statement (.encodeFanEcono c) := fun _ =>
  decide_eq_true (by rw [encodeWord, encodeCmdw, mask_F, fieldF_word]; rfl)

theorem encodeFanReserved6 (w : Word) : Statement (.encodeFanReserved6 w) := fun h => by
  simp only [Instr.wellFormed, decide_eq_true_eq] at h
  exact decide_eq_true (by rw [encodeWord, mask_F, h]; rfl)

theorem encodeFanReserved7 (w : Word) : Statement (.encodeFanReserved7 w) := fun h => by
  simp only [Instr.wellFormed, decide_eq_true_eq] at h
  exact decide_eq_true (by rw [encodeWord, mask_F, h]; rfl)

theorem encodeVswingSwing (c : CommandState) : Statement (.encodeVswingSwing c) := fun _ =>
  decide_eq_true (by rw [encodeWord, encodeCmdw, mask_V, fieldV_word]; rfl)

theorem encodeVswingUp (c : CommandState) : Statement (.encodeVswingUp c) := fun _ =>
  decide_eq_true (by rw [encodeWord, encodeCmdw, mask_V, fieldV_word]; rfl)

theorem encodeVswingMidUp (c : CommandState) : Statement (.encodeVswingMidUp c) := fun _ =>
  decide_eq_true (by rw [encodeWord, encodeCmdw, mask_V, fieldV_word]; rfl)

theorem encodeVswingMiddle (c : CommandState) : Statement (.encodeVswingMiddle c) := fun _ =>
  decide_eq_true (by rw [encodeWord, encodeCmdw, mask_V, fieldV_word]; rfl)

theorem encodeVswingMidDown (c : CommandState) : Statement (.encodeVswingMidDown c) := fun _ =>
  decide_eq_true (by rw [encodeWord, encodeCmdw, mask_V, fieldV_word]; rfl)

theorem encodeVswingDown (c : CommandState) : Statement (.encodeVswingDown c) := fun _ =>
  decide_eq_true (by rw [encodeWord, encodeCmdw, mask_V, fieldV_word]; rfl)

theorem encodeVswingStop (c : CommandState) : Statement (.encodeVswingStop c) := fun _ =>
  decide_eq_true (by rw [encodeWord, encodeCmdw, mask_V, fieldV_word]; rfl)

theorem encodeVswingReserved7 (w : Word) : Statement (.encodeVswingReserved7 w) := fun h => by
  simp only [Instr.wellFormed, decide_eq_true_eq] at h
  exact decide_eq_true (by rw [encodeWord, mask_V, h]; rfl)

theorem encodeHswingStop (c : CommandState) : Statement (.encodeHswingStop c) := fun _ =>
  decide_eq_true (by rw [encodeWord, encodeCmdw, mask_H, fieldH_word]; rfl)

theorem encodeHswingReserved1 (w : Word) : Statement (.encodeHswingReserved1 w) := fun h => by
  simp only [Instr.wellFormed, decide_eq_true_eq] at h
  exact decide_eq_true (by rw [encodeWord, mask_H, h]; rfl)

theorem encodeCleanOn (c : CommandState) : Statement (.encodeCleanOn c) := fun _ =>
  decide_eq_true (by rw [encodeWord, encodeCmdw, mask_C, fieldC_word]; rfl)

theorem encodeCleanOff (c : CommandState) : Statement (.encodeCleanOff c) := fun _ =>
  decide_eq_true (by rw [encodeWord, encodeCmdw, mask_C, fieldC_word]; rfl)

theorem encodeTemp18 (c : CommandState) : Statement (.encodeTemp18 c) := fun _ =>
  decide_eq_true (by rw [encodeWord, encodeCmdw, mask_T, fieldT_word]; dsimp only; decide)

theorem encodeTemp19 (c : CommandState) : Statement (.encodeTemp19 c) := fun _ =>
  decide_eq_true (by rw [encodeWord, encodeCmdw, mask_T, fieldT_word]; dsimp only; decide)

theorem encodeTemp20 (c : CommandState) : Statement (.encodeTemp20 c) := fun _ =>
  decide_eq_true (by rw [encodeWord, encodeCmdw, mask_T, fieldT_word]; dsimp only; decide)

theorem encodeTemp21 (c : CommandState) : Statement (.encodeTemp21 c) := fun _ =>
  decide_eq_true (by rw [encodeWord, encodeCmdw, mask_T, fieldT_word]; dsimp only; decide)

theorem encodeTemp22 (c : CommandState) : Statement (.encodeTemp22 c) := fun _ =>
  decide_eq_true (by rw [encodeWord, encodeCmdw, mask_T, fieldT_word]; dsimp only; decide)

theorem encodeTemp23 (c : CommandState) : Statement (.encodeTemp23 c) := fun _ =>
  decide_eq_true (by rw [encodeWord, encodeCmdw, mask_T, fieldT_word]; dsimp only; decide)

theorem encodeTemp24 (c : CommandState) : Statement (.encodeTemp24 c) := fun _ =>
  decide_eq_true (by rw [encodeWord, encodeCmdw, mask_T, fieldT_word]; dsimp only; decide)

theorem encodeTemp25 (c : CommandState) : Statement (.encodeTemp25 c) := fun _ =>
  decide_eq_true (by rw [encodeWord, encodeCmdw, mask_T, fieldT_word]; dsimp only; decide)

theorem encodeTemp26 (c : CommandState) : Statement (.encodeTemp26 c) := fun _ =>
  decide_eq_true (by rw [encodeWord, encodeCmdw, mask_T, fieldT_word]; dsimp only; decide)

theorem encodeTemp27 (c : CommandState) : Statement (.encodeTemp27 c) := fun _ =>
  decide_eq_true (by rw [encodeWord, encodeCmdw, mask_T, fieldT_word]; dsimp only; decide)

theorem encodeTemp28 (c : CommandState) : Statement (.encodeTemp28 c) := fun _ =>
  decide_eq_true (by rw [encodeWord, encodeCmdw, mask_T, fieldT_word]; dsimp only; decide)

theorem encodeTemp29 (c : CommandState) : Statement (.encodeTemp29 c) := fun _ =>
  decide_eq_true (by rw [encodeWord, encodeCmdw, mask_T, fieldT_word]; dsimp only; decide)

theorem encodeTemp30 (c : CommandState) : Statement (.encodeTemp30 c) := fun _ =>
  decide_eq_true (by rw [encodeWord, encodeCmdw, mask_T, fieldT_word]; dsimp only; decide)

theorem encodeTempFallback (c : CommandState) : Statement (.encodeTempFallback c) := fun _ => rfl

theorem payloadFrame (c : CommandState) : Statement (.payloadFrame c) := fun _ => rfl

theorem envelopeFrame (c : CommandState) : Statement (.envelopeFrame c) := fun _ => rfl

end Sys2Proof.Laws.RowMatch
end

