-- ==== Sys2Proof/Laws/Pipeline.lean ====
section
/-!
SUPPORT. The small lemmas of the three units: sizes, sequence shapes and single bytes, which the provers cite.
-/

/-- Every configuration names the same fixed parameters (R6). -/
@[simp] theorem Sys2Proof.Params.fixed_eq (p : Sys2Proof.Params) : p.fixed = Sys2Proof.Machine.fixedParams := rfl

namespace Sys2Proof.Machine

section FixedParams

@[simp] theorem fixed_payloadPrefix : fixedParams.payloadPrefix = [0x52#8, 0xAE#8, 0xC3#8, 0x26#8, 0xD9#8] := rfl
@[simp] theorem fixed_seed5 : fixedParams.seed5 = 0x11#8 := rfl
@[simp] theorem fixed_seed7 : fixedParams.seed7 = 0x07#8 := rfl
@[simp] theorem fixed_seed9 : fixedParams.seed9 = 0x00#8 := rfl
@[simp] theorem fixed_vsMask5 : fixedParams.vsMask5 = 0x02#8 := rfl
@[simp] theorem fixed_vsMask7 : fixedParams.vsMask7 = 0x18#8 := rfl
@[simp] theorem fixed_tLowExcl : fixedParams.tLowExcl = 17 := rfl
@[simp] theorem fixed_tHighExcl : fixedParams.tHighExcl = 31 := rfl
@[simp] theorem fixed_tBase : fixedParams.tBase = 17 := rfl
@[simp] theorem fixed_tDefault : fixedParams.tDefault = 24 := rfl
@[simp] theorem fixed_tempMask : fixedParams.tempMask = 0xF0#8 := rfl
@[simp] theorem fixed_bdcfNum : fixedParams.bdcfNum = 269 := rfl
@[simp] theorem fixed_bdcfDen : fixedParams.bdcfDen = 8192 := rfl
@[simp] theorem fixed_payloadLen : fixedParams.payloadLen = 11 := rfl
@[simp] theorem fixed_bitsPerByte : fixedParams.bitsPerByte = 8 := rfl
@[simp] theorem fixed_cmdType : fixedParams.cmdType = 0x26#8 := rfl
@[simp] theorem fixed_repeatCount : fixedParams.repeatCount = 0x00#8 := rfl
@[simp] theorem fixed_lenAdj : fixedParams.lenAdj = 4 := rfl
@[simp] theorem fixed_trailer : fixedParams.trailer = [0x0D#8, 0x05#8] := rfl
@[simp] theorem fixed_durOneByteLimit : fixedParams.durOneByteLimit = 256 := rfl

end FixedParams

section ParameterMapper
variable (k : CodeTable) (c : CommandState) (b5 b7 b9 : Byte)

/-- The 11 bytes of a frame (R54). -/
@[simp] theorem payloadLayout_toList : (payloadLayout b5 b7 b9).toList =
    [0x52#8, 0xAE#8, 0xC3#8, 0x26#8, 0xD9#8, b5, pmChk b5, b7, pmChk b7, b9, pmChk b9] := rfl

/-- The complement in its two spellings (R76). -/
theorem pmChk_eq_not (x : Byte) : pmChk x = ~~~x := by
  apply BitVec.eq_of_toNat_eq
  have h := x.isLt
  simp only [pmChk, BitVec.toNat_sub, BitVec.toNat_not, BitVec.toNat_ofNat]
  omega

/-- The temperature in range is coded itself (R71). -/
theorem effectiveTemp_inRange {t : Int} (h : 17 < t ∧ t < 31) : effectiveTemp t = t := if_pos h

/-- Any other is coded as 24 (R71). -/
theorem effectiveTemp_fallback {t : Int} (h : ¬(17 < t ∧ t < 31)) : effectiveTemp t = 24 := if_neg h

/-- The code of a temperature out of range is that of 24 (R71). -/
theorem pmTemp_fallback {t : Int} (h : ¬(17 < t ∧ t < 31)) : pmTemp t = pmTemp fixedParams.tDefault := by
  rw [pmTemp, effectiveTemp_fallback h, pmTemp, effectiveTemp_inRange (by decide)]

/-- The effective temperature is always 18 to 30 (R82). -/
theorem effectiveTemp_bounds (t : Int) : 18 ≤ effectiveTemp t ∧ effectiveTemp t ≤ 30 := by
  by_cases h : 17 < t ∧ t < 31
  · rw [effectiveTemp_inRange h]; omega
  · rw [effectiveTemp_fallback h]; omega

end ParameterMapper

section PulseTrain
variable (p : Params) (b : Byte)

/-- The scaling with its constants written out (R91). -/
theorem peScale_eq (u : Nat) : peScale u = (u * 269 + 8191) / 8192 := by
  simp only [peScale, Nat.reduceSub]

/-- The 16 durations of a byte written out (R94). -/
theorem peByte_eq : peByte p b =
    [dBitMark p, (peBit p b 0).2, dBitMark p, (peBit p b 1).2, dBitMark p, (peBit p b 2).2,
      dBitMark p, (peBit p b 3).2, dBitMark p, (peBit p b 4).2, dBitMark p, (peBit p b 5).2,
      dBitMark p, (peBit p b 6).2, dBitMark p, (peBit p b 7).2] := rfl

/-- A byte gives 16 durations (R94). -/
@[simp] theorem peByte_length : (peByte p b).length = 16 := rfl

/-- Bytes in a row give 16 durations each. -/
theorem flatMap_peByte_length (bs : List Byte) : (bs.flatMap (peByte p)).length = 16 * bs.length := by
  induction bs with
  | nil => rfl
  | cons b bs ih => rw [List.flatMap_cons, List.length_append, ih, peByte_length, List.length_cons]; ring

/-- A pulse train has 178 values (R106). -/
@[simp] theorem fbTrain_length (f : PayloadFrame) : (fbTrain p f).length = 178 := by
  rw [fbTrain, List.length_append, flatMap_peByte_length, Vector.length_toList]; rfl

/-- A duration of a byte is one of three constants (R93). -/
theorem mem_peByte {d : Nat} (h : d ∈ peByte p b) : d = dBitMark p ∨ d = dOneSpace p ∨ d = dZeroSpace p := by
  simp only [peByte, peBit, List.mem_flatMap, List.mem_cons, List.not_mem_nil, or_false] at h
  obtain ⟨i, -, h | h⟩ := h
  · exact .inl h
  · split at h
    · exact .inr (.inl h)
    · exact .inr (.inr h)

/-- A duration of a train is one of the five constants (R106). -/
theorem mem_fbTrain {f : PayloadFrame} {d : Nat} (h : d ∈ fbTrain p f) :
    d = dHdrMark p ∨ d = dHdrSpace p ∨ d = dBitMark p ∨ d = dOneSpace p ∨ d = dZeroSpace p := by
  simp only [fbTrain, peHdr, List.mem_append, List.mem_cons, List.not_mem_nil, or_false, List.mem_flatMap] at h
  rcases h with (h | h) | ⟨b, -, h⟩
  · exact .inl h
  · exact .inr (.inl h)
  · exact .inr (.inr (mem_peByte p b h))

end PulseTrain

section Envelope

/-- An item has the size `sz` (R107). -/
@[simp] theorem fbDur_length (v : Nat) : (fbDur v).length = fbSize v := by
  unfold fbDur fbSize
  split <;> rfl

/-- A short duration is one byte (R107). -/
theorem fbDur_short {v : Nat} (h : v < 256) : fbDur v = [BitVec.ofNat 8 v] := if_pos h

/-- Else it is two bytes, low byte first (R107). -/
theorem fbDur_long {v : Nat} (h : ¬v < 256) : fbDur v = [BitVec.ofNat 8 v, BitVec.ofNat 8 (v >>> 8)] := if_neg h

/-- The size of a short item (R107). -/
theorem fbSize_short {v : Nat} (h : v < 256) : fbSize v = 1 := if_pos h

/-- The size of any other (R107). -/
theorem fbSize_long {v : Nat} (h : ¬v < 256) : fbSize v = 2 := if_neg h

/-- An item is one or two bytes (R107). -/
theorem fbSize_bounds (v : Nat) : 1 ≤ fbSize v ∧ fbSize v ≤ 2 := by
  unfold fbSize
  split <;> omega

/-- The body's size is the sum of its items' sizes (R108). -/
theorem fbBody_length (d : List Nat) : (fbBody d).length = (d.map fbSize).sum := by
  rw [fbBody, List.length_flatMap]
  simp only [fbDur_length]

/-- A body of short durations has one byte for each (R111). -/
theorem fbBody_short {d : List Nat} (h : ∀ v ∈ d, v < 256) : fbBody d = d.map (BitVec.ofNat 8) := by
  induction d with
  | nil => rfl
  | cons v d ih =>
    rw [fbBody, List.flatMap_cons, fbDur_short (h v List.mem_cons_self)]
    exact congrArg _ (ih fun x hx => h x (List.mem_cons_of_mem v hx))

/-- An envelope is its body and six bytes (R110). -/
@[simp] theorem envelopeLayout_length (y : List Byte) : (envelopeLayout y).length = y.length + 6 := by
  simp [envelopeLayout]

end Envelope

end Sys2Proof.Machine
end

