-- ==== Sys2Proof/Tests/Slice0.lean ====
section
/-!
SUPPORT. Tests of the model on fixed values, and a witness for every statement with hypotheses. Expected results come
from `spec/95_test_vectors.md` (its sections are named) or from the rules by hand, never from the model.
-/

namespace Sys2Proof.Tests

open Sys2Proof Sys2Proof.Machine Sys2Proof.Claims Sys2Proof.Safety

/-- `k` bytes written as one hexadecimal number, first byte first. -/
def bytes (k n : Nat) : List Byte := (List.range k).map fun i => BitVec.ofNat 8 (n >>> (8 * (k - 1 - i)))

/-- The command of the word of zeros (2.1). -/
def zero : CommandState := ⟨.off, .auto, .auto, .swing, .stop, .on, 0⟩

/-- The command of the second row of 2.5. -/
def cool : CommandState := ⟨.on, .cool, .low, .middle, .stop, .off, 22⟩

/-- The block right after reset. -/
def ready : State := State.reset

/-- The state an instruction leaves; the state itself where it stops. -/
def after (i : Instr) (s : State) : State :=
  match exec i s with
  | .next t => t
  | _ => s

/-- The state a step leaves; the state itself where it stops. -/
def stepped (s : State) : State :=
  match step s with
  | .next t => t
  | _ => s

/-- One step on a state to which the host presents a command word. -/
def encoded (w : Nat) (s : State) : State := stepped (s.withFetchWord 32 w)

/-- The block with the source's example as its result (V1). -/
def done : State := after (.encode exampleCommand) ready

/-- The block in FAULT, by mode selector 6 (2.10). -/
def broken : State := after (.encodeModeReserved6 0x0000000C#32) ready

/-- The payload a state holds. -/
def payloadBytes (s : State) : List Byte :=
  match s.payload with
  | some f => f.toList
  | none => []

/-- Byte `k` of the payload that an instruction gives from reset. -/
def dataByte (k : Nat) (i : Instr) : Option Byte := (payloadBytes (after i ready))[k]?

/-! ## Ill-formed terms, one for each check -/

/-- A temperature that no command word can carry (R49). -/
theorem test_ill_formed_temperature :
    (Instr.encode { zero with targetTemperature := 32768 }).wellFormed = false ∧
    (Instr.encode { zero with targetTemperature := -32769 }).wellFormed = false ∧
    (Instr.payloadFrame { zero with targetTemperature := 32768 }).wellFormed = false ∧
    (Instr.envelopeFrame { zero with targetTemperature := 32768 }).wellFormed = false := by decide

/-- A row with a command that has another value in the row's field. -/
theorem test_ill_formed_field :
    (Instr.encodePowerOn zero).wellFormed = false ∧ (Instr.encodePowerOff cool).wellFormed = false ∧
    (Instr.encodeModeCool zero).wellFormed = false ∧ (Instr.encodeFanLow zero).wellFormed = false ∧
    (Instr.encodeVswingStop zero).wellFormed = false ∧ (Instr.encodeCleanOff zero).wellFormed = false ∧
    (Instr.encodeCleanOn cool).wellFormed = false ∧ (Instr.encodeTemp18 zero).wellFormed = false ∧
    (Instr.encodeTempFallback cool).wellFormed = false := by decide

/-- The hswing row has one field value, so only the temperature can be wrong. -/
theorem test_ill_formed_hswing :
    (Instr.encodeHswingStop { zero with targetTemperature := 32768 }).wellFormed = false := by decide

/-- A reserved row with a word that does not have the reserved value. -/
theorem test_ill_formed_word :
    (Instr.encodeReservedBits 0x0000000C#32).wellFormed = false ∧
    (Instr.encodeModeReserved6 0x0000000E#32).wellFormed = false ∧
    (Instr.encodeModeReserved7 0x0000000C#32).wellFormed = false ∧
    (Instr.encodeFanReserved6 0x00000070#32).wellFormed = false ∧
    (Instr.encodeFanReserved7 0x00000060#32).wellFormed = false ∧
    (Instr.encodeVswingReserved7 0x00000300#32).wellFormed = false ∧
    (Instr.encodeHswingReserved1 0x00000000#32).wellFormed = false := by decide

/-! ## Decoding: one word for each constructor, written out by R47 in the order T, r, C, H, V, F, M, P -/

/-- The ENCODE row and the two result layouts. -/
theorem test_decode_whole :
    decodeWord 0b0000000000010110_0000_1_0_011_001_001_1#32 =
      .encode ⟨.on, .cool, .low, .middle, .stop, .off, 22⟩ ∧
    .payloadFrame ⟨.on, .fanOnly, .hiPower, .midUp, .stop, .off, 25⟩ ∈
      readings 0b0000000000011001_0000_1_0_010_100_100_1#32 ∧
    .envelopeFrame ⟨.off, .maintenance, .econo, .down, .stop, .on, -5⟩ ∈
      readings 0b1111111111111011_0000_0_0_101_101_101_0#32 := by decide

/-- The reserved rows, which the decoder answers for their words. -/
theorem test_decode_reserved :
    decodeWord 0b0000000000011001_1000_1_0_010_100_100_1#32 =
      .encodeReservedBits 0b0000000000011001_1000_1_0_010_100_100_1#32 ∧
    decodeWord 0b0000000000011110_0000_0_0_000_011_110_0#32 =
      .encodeModeReserved6 0b0000000000011110_0000_0_0_000_011_110_0#32 ∧
    decodeWord 0b0000000000011001_0000_1_0_010_100_111_1#32 =
      .encodeModeReserved7 0b0000000000011001_0000_1_0_010_100_111_1#32 ∧
    decodeWord 0b0000000000010010_0000_1_0_001_110_010_1#32 =
      .encodeFanReserved6 0b0000000000010010_0000_1_0_001_110_010_1#32 ∧
    decodeWord 0b0000000000010110_0000_1_0_011_111_001_1#32 =
      .encodeFanReserved7 0b0000000000010110_0000_1_0_011_111_001_1#32 ∧
    decodeWord 0b1111111111111011_0000_0_0_111_101_101_0#32 =
      .encodeVswingReserved7 0b1111111111111011_0000_0_0_111_101_101_0#32 ∧
    decodeWord 0b0000000000010110_0000_1_1_011_001_001_1#32 =
      .encodeHswingReserved1 0b0000000000010110_0000_1_1_011_001_001_1#32 := by decide

/-- The power rows. -/
theorem test_decode_power :
    .encodePowerOff ⟨.off, .maintenance, .econo, .down, .stop, .on, -5⟩ ∈
      readings 0b1111111111111011_0000_0_0_101_101_101_0#32 ∧
    .encodePowerOn ⟨.on, .dry, .mid, .up, .stop, .off, 18⟩ ∈
      readings 0b0000000000010010_0000_1_0_001_010_010_1#32 := by decide

/-- The mode rows. -/
theorem test_decode_mode :
    .encodeModeAuto ⟨.on, .auto, .low, .middle, .stop, .off, 22⟩ ∈
      readings 0b0000000000010110_0000_1_0_011_001_000_1#32 ∧
    .encodeModeCool ⟨.off, .cool, .high, .swing, .stop, .on, 30⟩ ∈
      readings 0b0000000000011110_0000_0_0_000_011_001_0#32 ∧
    .encodeModeDry ⟨.on, .dry, .hiPower, .midUp, .stop, .off, 25⟩ ∈
      readings 0b0000000000011001_0000_1_0_010_100_010_1#32 ∧
    .encodeModeHeat ⟨.off, .heat, .econo, .down, .stop, .on, -5⟩ ∈
      readings 0b1111111111111011_0000_0_0_101_101_011_0#32 ∧
    .encodeModeFanOnly ⟨.on, .fanOnly, .mid, .up, .stop, .off, 18⟩ ∈
      readings 0b0000000000010010_0000_1_0_001_010_100_1#32 ∧
    .encodeModeMaintenance ⟨.on, .maintenance, .low, .middle, .stop, .off, 22⟩ ∈
      readings 0b0000000000010110_0000_1_0_011_001_101_1#32 := by decide

/-- The fan rows. -/
theorem test_decode_fan :
    .encodeFanAuto ⟨.off, .maintenance, .auto, .down, .stop, .on, -5⟩ ∈
      readings 0b1111111111111011_0000_0_0_101_000_101_0#32 ∧
    .encodeFanLow ⟨.on, .dry, .low, .up, .stop, .off, 18⟩ ∈
      readings 0b0000000000010010_0000_1_0_001_001_010_1#32 ∧
    .encodeFanMid ⟨.on, .cool, .mid, .middle, .stop, .off, 22⟩ ∈
      readings 0b0000000000010110_0000_1_0_011_010_001_1#32 ∧
    .encodeFanHigh ⟨.off, .heat, .high, .swing, .stop, .on, 30⟩ ∈
      readings 0b0000000000011110_0000_0_0_000_011_011_0#32 ∧
    .encodeFanHiPower ⟨.on, .fanOnly, .hiPower, .midUp, .stop, .off, 25⟩ ∈
      readings 0b0000000000011001_0000_1_0_010_100_100_1#32 ∧
    .encodeFanEcono ⟨.off, .maintenance, .econo, .down, .stop, .on, -5⟩ ∈
      readings 0b1111111111111011_0000_0_0_101_101_101_0#32 := by decide

/-- The vswing rows. -/
theorem test_decode_vswing :
    .encodeVswingSwing ⟨.off, .heat, .high, .swing, .stop, .on, 30⟩ ∈
      readings 0b0000000000011110_0000_0_0_000_011_011_0#32 ∧
    .encodeVswingUp ⟨.on, .fanOnly, .hiPower, .up, .stop, .off, 25⟩ ∈
      readings 0b0000000000011001_0000_1_0_001_100_100_1#32 ∧
    .encodeVswingMidUp ⟨.off, .maintenance, .econo, .midUp, .stop, .on, -5⟩ ∈
      readings 0b1111111111111011_0000_0_0_010_101_101_0#32 ∧
    .encodeVswingMiddle ⟨.on, .dry, .mid, .middle, .stop, .off, 18⟩ ∈
      readings 0b0000000000010010_0000_1_0_011_010_010_1#32 ∧
    .encodeVswingMidDown ⟨.on, .cool, .low, .midDown, .stop, .off, 22⟩ ∈
      readings 0b0000000000010110_0000_1_0_100_001_001_1#32 ∧
    .encodeVswingDown ⟨.off, .heat, .high, .down, .stop, .on, 30⟩ ∈
      readings 0b0000000000011110_0000_0_0_101_011_011_0#32 ∧
    .encodeVswingStop ⟨.on, .fanOnly, .hiPower, .stop, .stop, .off, 25⟩ ∈
      readings 0b0000000000011001_0000_1_0_110_100_100_1#32 := by decide

/-- The hswing row. -/
theorem test_decode_hswing :
    .encodeHswingStop ⟨.on, .dry, .mid, .up, .stop, .off, 18⟩ ∈
      readings 0b0000000000010010_0000_1_0_001_010_010_1#32 := by decide

/-- The clean rows. -/
theorem test_decode_clean :
    .encodeCleanOn ⟨.off, .heat, .high, .swing, .stop, .on, 30⟩ ∈
      readings 0b0000000000011110_0000_0_0_000_011_011_0#32 ∧
    .encodeCleanOff ⟨.on, .fanOnly, .hiPower, .midUp, .stop, .off, 25⟩ ∈
      readings 0b0000000000011001_0000_1_0_010_100_100_1#32 := by decide

/-- The temperature rows. -/
theorem test_decode_temp :
    .encodeTemp18 ⟨.off, .maintenance, .econo, .down, .stop, .on, 18⟩ ∈
      readings 0b0000000000010010_0000_0_0_101_101_101_0#32 ∧
    .encodeTemp19 ⟨.on, .dry, .mid, .up, .stop, .off, 19⟩ ∈
      readings 0b0000000000010011_0000_1_0_001_010_010_1#32 ∧
    .encodeTemp20 ⟨.on, .cool, .low, .middle, .stop, .off, 20⟩ ∈
      readings 0b0000000000010100_0000_1_0_011_001_001_1#32 ∧
    .encodeTemp21 ⟨.off, .heat, .high, .swing, .stop, .on, 21⟩ ∈
      readings 0b0000000000010101_0000_0_0_000_011_011_0#32 ∧
    .encodeTemp22 ⟨.on, .fanOnly, .hiPower, .midUp, .stop, .off, 22⟩ ∈
      readings 0b0000000000010110_0000_1_0_010_100_100_1#32 ∧
    .encodeTemp23 ⟨.off, .maintenance, .econo, .down, .stop, .on, 23⟩ ∈
      readings 0b0000000000010111_0000_0_0_101_101_101_0#32 ∧
    .encodeTemp24 ⟨.on, .dry, .mid, .up, .stop, .off, 24⟩ ∈
      readings 0b0000000000011000_0000_1_0_001_010_010_1#32 ∧
    .encodeTemp25 ⟨.on, .cool, .low, .middle, .stop, .off, 25⟩ ∈
      readings 0b0000000000011001_0000_1_0_011_001_001_1#32 ∧
    .encodeTemp26 ⟨.off, .heat, .high, .swing, .stop, .on, 26⟩ ∈
      readings 0b0000000000011010_0000_0_0_000_011_011_0#32 ∧
    .encodeTemp27 ⟨.on, .fanOnly, .hiPower, .midUp, .stop, .off, 27⟩ ∈
      readings 0b0000000000011011_0000_1_0_010_100_100_1#32 ∧
    .encodeTemp28 ⟨.off, .maintenance, .econo, .down, .stop, .on, 28⟩ ∈
      readings 0b0000000000011100_0000_0_0_101_101_101_0#32 ∧
    .encodeTemp29 ⟨.on, .dry, .mid, .up, .stop, .off, 29⟩ ∈
      readings 0b0000000000011101_0000_1_0_001_010_010_1#32 ∧
    .encodeTemp30 ⟨.on, .cool, .low, .middle, .stop, .off, 30⟩ ∈
      readings 0b0000000000011110_0000_1_0_011_001_001_1#32 ∧
    .encodeTempFallback ⟨.off, .heat, .high, .swing, .stop, .on, 31⟩ ∈
      readings 0b0000000000011111_0000_0_0_000_011_011_0#32 := by decide

/-- RESET is selected by its port and wins over `start` (R127, R132). -/
theorem test_decode_reset :
    decodePorts ⟨0x00180B00#32, true, true⟩ = some .reset ∧ decodePorts ⟨0#32, false, true⟩ = some .reset ∧
    decodePorts ⟨0x00180B00#32, false, false⟩ = none := by decide

/-- The legal words of 2.1. -/
theorem test_legal_words :
    decodeCmdw 0x00000000#32 = .ok zero ∧ decodeCmdw 0x00180B00#32 = .ok exampleCommand ∧
    decodeCmdw 0x00160993#32 = .ok cool ∧
    decodeCmdw 0x001E0037#32 = .ok ⟨.on, .heat, .high, .swing, .stop, .on, 30⟩ ∧
    decodeCmdw 0xFFFB02D3#32 = .ok ⟨.on, .cool, .econo, .down, .stop, .on, -5⟩ ∧
    decodeCmdw 0x80000B03#32 = .ok ⟨.on, .cool, .auto, .stop, .stop, .off, -32768⟩ ∧
    decodeCmdw 0x7FFF0B03#32 = .ok ⟨.on, .cool, .auto, .stop, .stop, .off, 32767⟩ ∧
    decodeCmdw 0x0000000A#32 = .ok { zero with mode := .maintenance } ∧
    decodeCmdw 0x00000050#32 = .ok { zero with fan := .econo } ∧
    decodeCmdw 0x00000300#32 = .ok { zero with vswing := .stop } ∧
    decodeCmdw 0x00000800#32 = .ok { zero with clean := .off } := by decide

/-- The illegal words of 2.1 and their causes. -/
theorem test_illegal_words :
    [0x0000000C#32, 0x0000000E#32, 0x00000060#32, 0x00000380#32, 0x00000400#32, 0x00001000#32, 0x0000F7FE#32,
      0xFFFFFFFF#32].map decodeCmdw =
    [0x01#5, 0x01#5, 0x02#5, 0x04#5, 0x08#5, 0x10#5, 0x1F#5, 0x1F#5].map .error := by decide

/-- A word with several invalid parts has one reading for each; the decoder answers the first row of the table. -/
theorem test_overlapping_reserved_rows :
    readings 0x0000F7FE#32 =
      [.encodeReservedBits 0x0000F7FE#32, .encodeModeReserved7 0x0000F7FE#32, .encodeFanReserved7 0x0000F7FE#32,
        .encodeVswingReserved7 0x0000F7FE#32, .encodeHswingReserved1 0x0000F7FE#32] := by decide

/-- Words of the commands of 2.5. -/
theorem test_encode_words :
    encodeCmdw exampleCommand = 0x00180B00#32 ∧ encodeCmdw cool = 0x00160993#32 ∧
    encodeCmdw ⟨.on, .fanOnly, .hiPower, .midUp, .stop, .off, 25⟩ = 0x00190949#32 ∧
    encodeCmdw ⟨.off, .maintenance, .econo, .down, .stop, .on, 17⟩ = 0x001102DA#32 ∧
    encodeCmdw ⟨.on, .cool, .econo, .down, .stop, .on, -5⟩ = 0xFFFB02D3#32 := by decide

/-- A table word of fewer bits has zeros above them; more than 32 bits are rejected by name (log entry 7). -/
theorem test_table_words :
    decodeTableWord 8 0x0A = some (.encode { zero with mode := .maintenance }) ∧
    decodeTableWord 32 0x00180B00 = some (.encode exampleCommand) ∧ decodeTableWord 33 0 = none ∧
    decodeBits 33 0 = .error .widerThanCommandWord := ⟨by decide, by decide, by decide, rfl⟩

/-! ## ParameterMapper -/

/-- The table of R6, read through a configuration. -/
theorem test_fixed_params (p : Config) :
    let r := p.val.fixed
    r.payloadPrefix = bytes 5 0x52AEC326D9 ∧ (r.seed5, r.seed7, r.seed9) = (0x11#8, 0x07#8, 0x00#8) ∧
    (r.vsMask5, r.vsMask7, r.tempMask) = (0x02#8, 0x18#8, 0xF0#8) ∧
    (r.tLowExcl, r.tHighExcl, r.tBase, r.tDefault) = (17, 31, 17, 24) ∧ (r.bdcfNum, r.bdcfDen) = (269, 8192) ∧
    (r.payloadLen, r.bitsPerByte, r.lenAdj, r.durOneByteLimit) = (11, 8, 4, 256) ∧
    (r.cmdType, r.repeatCount, r.trailer) = (0x26#8, 0x00#8, bytes 2 0x0D05) := by
  simp only [Params.fixed_eq]
  decide

/-- The temperature codes of 2.2. -/
theorem test_temperature_codes :
    [-32768, -1, 0, 16, 17, 18, 19, 20, 21, 22, 23, 24, 25, 26, 27, 28, 29, 30, 31, 32, 35, 280, 32767].map pmTemp =
    bytes 23 0x8080808080E0D0C0B0A090807060504030208080808080 := by decide

/-- The 14 values of byte 5 in 2.3. -/
theorem test_byte5_table :
    vswings.flatMap (fun v => cleans.map fun c => pmB5 defaultCodes { zero with vswing := v, clean := c }) =
    bytes 14 0xDFFFDFFFDDFDDDFDDDFDDDFDDFFF := by decide

/-- The 42 values of byte 7 in 2.3, a row for each fan value. -/
theorem test_byte7_table :
    fans.map (fun f => vswings.map fun v => pmB7 defaultCodes { zero with fan := f, vswing := v }) =
    [bytes 7 0xEFE7FFF7EFE7FF, bytes 7 0xAFA7BFB7AFA7BF, bytes 7 0x8F879F978F879F, bytes 7 0x6F677F776F677F,
      bytes 7 0x4F475F574F475F, bytes 7 0x0F071F170F071F] := by decide

/-- The 12 low nibbles of byte 9 in 2.3, under the temperature code 80. -/
theorem test_byte9_table :
    modes.flatMap (fun m => powers.map fun p => pmB9 defaultCodes { zero with mode := m, power := p }) =
    bytes 12 0x8F878E868D858B838C848E86 := by decide

/-- The complements of 2.4; the printed form fails on FF (V4). -/
theorem test_complements :
    (bytes 10 0x00FF8FFDB7A6DF0F807F).map pmChk = bytes 10 0xFF007002485920F07F80 ∧ pmChk 0xFF#8 ≠ 0x01#8 := by
  decide

/-- The payloads of 2.5, by command word. -/
theorem test_payloads :
    ([0x00180B00#32, 0x00160993#32, 0x001E0037#32, 0x001208A5#32, 0x00190949#32, 0x001102DA#32, 0x001F0A01#32,
      0xFFFB02D3#32, 0x00230B03#32, 0x00180B03#32, 0x01180817#32, 0x00000000#32, 0x001E0B5B#32] : List Word).map
        (fun w => ((decodeCmdw w).map fun c => (pmEncode defaultCodes c).toList.drop 5).toOption) =
    ([0xFF00FF008F70, 0xFD02B748A659, 0xDF206F9023DC, 0xFF008778E51A, 0xFD025FA0748B, 0xDD2207F88E71, 0xFD02EF108778,
      0xDD2207F88679, 0xFF00FF008679, 0xFF00FF008679, 0xFF00AF50837C, 0xDF20EF108F70, 0xFF001FE026D9] : List Nat).map
        (fun n => some (bytes 6 n)) := by decide +kernel

/-- The first five bytes of a payload (V5). -/
theorem test_first_bytes : (pmEncode defaultCodes cool).toList.take 5 = bytes 5 0x52AEC326D9 := by decide

/-! ## PulseEncoder and FrameBuilder -/

/-- The scaled values of 2.6. -/
theorem test_scale :
    [0, 1, 30, 31, 396, 400, 426, 427, 1200, 1600, 3200, 7765, 7766, 8000, 8192, 8193, 1995772, 1995773].map peScale =
    [0, 1, 1, 2, 14, 14, 14, 15, 40, 53, 106, 255, 256, 263, 269, 270, 65535, 65536] := by decide

/-- The header pair of 2.7. -/
theorem test_header_pair : peHdr defaultParams = (106, 53) := by decide

/-- The pulses of the bytes 52 and 8F in 2.7. -/
theorem test_byte_pulses :
    peByte defaultParams 0x52#8 = [14, 40, 14, 14, 14, 40, 14, 40, 14, 14, 14, 40, 14, 14, 14, 40] ∧
    peByte defaultParams 0x8F#8 = [14, 14, 14, 14, 14, 14, 14, 14, 14, 40, 14, 40, 14, 40, 14, 14] := by decide

/-- The items of 2.8. -/
theorem test_duration_items :
    [0, 14, 106, 255, 256, 263, 4660, 65535].map fbDur =
    [[0x00#8], [0x0E#8], [0x6A#8], [0xFF#8], [0x00#8, 0x01#8], [0x07#8, 0x01#8], [0x34#8, 0x12#8],
      [0xFF#8, 0xFF#8]] := by decide

/-- The number of values of a train and their sum, 2.9 (a). -/
theorem test_train :
    (fbTrain defaultParams (pmEncode defaultCodes cool)).length = 178 ∧
    (fbTrain defaultParams (pmEncode defaultCodes cool)).sum = 3767 := by decide +kernel

/-- The whole envelope of V1, lines of 16 bytes. -/
def exampleEnvelope : List Byte :=
  bytes 16 0x2600B6006A350E280E0E0E280E280E0E ++ bytes 16 0x0E280E0E0E280E280E0E0E0E0E0E0E28 ++
  bytes 16 0x0E0E0E280E0E0E0E0E0E0E280E280E28 ++ bytes 16 0x0E280E0E0E0E0E280E0E0E0E0E280E28 ++
  bytes 16 0x0E0E0E280E280E0E0E280E280E0E0E0E ++ bytes 16 0x0E280E0E0E0E0E0E0E0E0E0E0E0E0E0E ++
  bytes 16 0x0E0E0E0E0E0E0E280E280E280E280E28 ++ bytes 16 0x0E280E280E280E0E0E0E0E0E0E0E0E0E ++
  bytes 16 0x0E0E0E0E0E0E0E280E280E280E280E28 ++ bytes 16 0x0E280E280E280E0E0E0E0E0E0E0E0E28 ++
  bytes 16 0x0E280E280E0E0E280E280E280E280E0E ++ bytes 8 0x0E0E0E0E0E280D05

/-- The whole envelope of 2.9 (a), lines of 16 bytes. -/
def coolEnvelope : List Byte :=
  bytes 16 0x2600B6006A350E280E0E0E280E280E0E ++ bytes 16 0x0E280E0E0E280E280E0E0E0E0E0E0E28 ++
  bytes 16 0x0E0E0E280E0E0E0E0E0E0E280E280E28 ++ bytes 16 0x0E280E0E0E0E0E280E0E0E0E0E280E28 ++
  bytes 16 0x0E0E0E280E280E0E0E280E280E0E0E0E ++ bytes 16 0x0E280E0E0E0E0E0E0E280E0E0E0E0E0E ++
  bytes 16 0x0E0E0E0E0E0E0E280E0E0E280E280E28 ++ bytes 16 0x0E280E280E280E0E0E0E0E0E0E280E0E ++
  bytes 16 0x0E0E0E280E0E0E280E280E280E0E0E28 ++ bytes 16 0x0E280E0E0E280E280E0E0E0E0E280E28 ++
  bytes 16 0x0E0E0E280E0E0E0E0E280E280E0E0E0E ++ bytes 8 0x0E280E0E0E280D05

/-- The envelope of V1 and that of 2.9 (a). -/
theorem test_whole_envelopes :
    fbEnv defaultParams (pmEncode defaultCodes exampleCommand) = exampleEnvelope ∧
    fbEnv defaultParams (pmEncode defaultCodes cool) = coolEnvelope := by decide +kernel

/-- The timing of 2.9 (b): well-formed, outside (T3). -/
def longZeros : Params := { defaultParams with tZeroSpace := 8000 }

/-- The two-byte branch, 2.9 (b). -/
theorem test_two_byte_items :
    (fbEnv longZeros (pmEncode defaultCodes exampleCommand)).take 22 =
      bytes 22 0x2600E2006A350E07010E0E0E07010E07010E0E0E0701 ∧
    (fbEnv longZeros (pmEncode defaultCodes exampleCommand)).drop 223 = bytes 5 0x0E07010D05 ∧
    (fbEnv longZeros (Vector.replicate 11 0x00#8)).length = 272 ∧
    (fbEnv longZeros (Vector.replicate 11 0x00#8)).take 4 = bytes 4 0x26000E01 ∧
    (fbEnv longZeros (Vector.replicate 11 0xFF#8)).length = 184 := by decide +kernel

/-- The timing of 2.9 (c). -/
def allLong : Params := ⟨defaultCodes, 8000, 8000, 8000, 8000, 8000⟩

/-- The largest envelope, 2.9 (c). -/
theorem test_largest_envelope :
    (fbEnv allLong (pmEncode defaultCodes cool)).length = envMax ∧
    (fbEnv allLong (pmEncode defaultCodes cool)).take 8 = bytes 8 0x2600680107010701 ∧
    (fbEnv allLong (pmEncode defaultCodes cool)).drop 358 = bytes 4 0x07010D05 := by decide +kernel

/-! ## One instruction: the byte its row decides, from the tables of 2.2 and 2.3 -/

/-- ENCODE and the two layouts give the payload of 2.5. -/
theorem test_exec_whole :
    [.encode cool, .payloadFrame cool, .envelopeFrame cool].map (fun i => payloadBytes (after i ready)) =
    List.replicate 3 (bytes 11 0x52AEC326D9FD02B748A659) := by decide +kernel

/-- The power rows on a command with the other value. -/
theorem test_exec_power :
    dataByte 9 (.encodePowerOff { zero with power := .on }) = some 0x8F#8 ∧
    dataByte 9 (.encodePowerOn zero) = some 0x87#8 := by decide +kernel

/-- The mode rows on a command with another value. -/
theorem test_exec_mode :
    [.encodeModeAuto cool, .encodeModeCool zero, .encodeModeDry zero, .encodeModeHeat zero, .encodeModeFanOnly zero,
      .encodeModeMaintenance zero].map (dataByte 9) = (bytes 6 0xA78E8D8B8C8E).map some := by decide +kernel

/-- The fan rows on a command with another value. -/
theorem test_exec_fan :
    [.encodeFanAuto cool, .encodeFanLow zero, .encodeFanMid zero, .encodeFanHigh zero, .encodeFanHiPower zero,
      .encodeFanEcono zero].map (dataByte 7) = (bytes 6 0xF7AF8F6F4F0F).map some := by decide +kernel

/-- The vswing rows: bytes 5 and 7. -/
theorem test_exec_vswing :
    [.encodeVswingSwing cool, .encodeVswingUp zero, .encodeVswingMidUp zero, .encodeVswingMiddle zero,
      .encodeVswingMidDown zero, .encodeVswingDown zero, .encodeVswingStop zero].map
        (fun i => (dataByte 5 i, dataByte 7 i)) =
    [(some 0xFF#8, some 0xAF#8), (some 0xDF#8, some 0xE7#8), (some 0xDD#8, some 0xFF#8), (some 0xDD#8, some 0xF7#8),
      (some 0xDD#8, some 0xEF#8), (some 0xDD#8, some 0xE7#8), (some 0xDF#8, some 0xFF#8)] := by decide +kernel

/-- The hswing row and the clean rows. -/
theorem test_exec_hswing_clean :
    [.encodeHswingStop zero, .encodeCleanOn cool, .encodeCleanOff zero].map (dataByte 5) =
    (bytes 3 0xDFDDFF).map some := by decide +kernel

/-- The temperature rows on a command with another value, the fallback row last. -/
theorem test_exec_temp :
    [.encodeTemp18 zero, .encodeTemp19 zero, .encodeTemp20 zero, .encodeTemp21 zero, .encodeTemp22 zero,
      .encodeTemp23 zero, .encodeTemp24 zero, .encodeTemp25 zero, .encodeTemp26 zero, .encodeTemp27 zero,
      .encodeTemp28 zero, .encodeTemp29 zero, .encodeTemp30 zero, .encodeTempFallback zero].map (dataByte 9) =
    (bytes 14 0xEFDFCFBFAF9F8F7F6F5F4F3F2F8F).map some := by decide +kernel

/-- The reserved rows: FAULT with the cause of R50, and nothing else in the latches (2.10). -/
theorem test_exec_reserved :
    [.encodeReservedBits 0x00001000#32, .encodeModeReserved6 0x0000000C#32, .encodeModeReserved7 0x0000000E#32,
      .encodeFanReserved6 0x00000060#32, .encodeFanReserved7 0x00000070#32, .encodeVswingReserved7 0x00000380#32,
      .encodeHswingReserved1 0x00000400#32].map (after · done) =
    [0x10#5, 0x01#5, 0x01#5, 0x02#5, 0x02#5, 0x04#5, 0x08#5].map
      (fun k => { ready with status := .fault, cause := k }) := by decide +kernel

/-- A reserved row reports every invalid part of its word (R144). -/
theorem test_exec_all_causes : (after (.encodeModeReserved7 0x0000F7FE#32) ready).cause = 0x1F#5 := by decide

/-- RESET from DONE and from FAULT gives the reset state. -/
theorem test_exec_reset : after .reset done = ready ∧ after .reset broken = ready := by decide +kernel

/-! ## One step (2.10, Part 3) -/

/-- ENCODE of the source's example from reset, and the whole envelope as the host reads it (V1, P1). -/
theorem test_step_example :
    step (ready.withFetchWord 32 0x00180B00) = .next done ∧ done.status = .done ∧ done.cause = 0#5 ∧ done.envLen = 184#16 ∧
    payloadBytes done = bytes 11 0x52AEC326D9FF00FF008F70 ∧
    done.env = (List.range 184).zip exampleEnvelope :=
  ⟨rfl, rfl, rfl, by decide +kernel, by decide +kernel, by decide +kernel⟩

/-- A second command leaves nothing of the first (P2). -/
theorem test_step_no_carry_over :
    payloadBytes (encoded 0x00160993 (encoded 0x001E0037 ready)) = bytes 11 0x52AEC326D9FD02B748A659 ∧
    encoded 0x00160993 (encoded 0x001E0037 ready) = encoded 0x00160993 ready := ⟨by decide +kernel, rfl⟩

/-- An out-of-range temperature acts as 24 (P3). -/
theorem test_step_fallback :
    [0x00230B03, 0x00180B03, 0x00110B03, 0x001F0B03, 0xFFFB0B03, 0x80000B03].map (fun w =>
      (payloadBytes (encoded w ready), (encoded w ready).status, (encoded w ready).cause)) =
    List.replicate 6 (bytes 11 0x52AEC326D9FF00FF008679, .done, 0#5) := by decide +kernel

/-- A fault, a refused command, and the way out (P4). -/
theorem test_step_fault :
    (encoded 0x00000380 done).status = .fault ∧ (encoded 0x00000380 done).cause = 0x04#5 ∧
    encoded 0x00180B00 (encoded 0x00000380 done) = encoded 0x00000380 done ∧
    stepped (present ⟨0#32, false, true⟩ (encoded 0x00000380 done)) = ready := by decide +kernel

/-- The temperature nibble follows `t` in FanOnly and Auto too (P5). -/
theorem test_step_bug_compatible :
    payloadBytes (encoded 0x00190949 ready) = bytes 11 0x52AEC326D9FD025FA0748B ∧
    payloadBytes (encoded 0x00130A01 ready) = bytes 11 0x52AEC326D9FD02EF10D728 := by decide +kernel

/-- `reset` with `start` is RESET, whatever the state. -/
theorem test_step_reset_wins (s : State) :
    step (present ⟨0x00180B00#32, true, true⟩ s) = .next (resetLatches s) := rfl

/-- A sample with neither changes no latch, whatever the state. -/
theorem test_step_no_strobe (s : State) : step (present ⟨0x00160993#32, false, false⟩ s) = .next s := rfl

/-! ## What the host reads, and the front end -/

/-- Reads at the edges (R13, R19, R30). -/
theorem test_host_reads :
    hostReadEnv done 183 = .ok 0x05#8 ∧ hostReadEnv done 184 = .error .noValue ∧
    hostReadEnv done 361 = .error .noValue ∧ hostReadEnv done 362 = .error .noSuchIndex ∧
    hostReadPayload done 10 = .ok 0x70#8 ∧ hostReadPayload done 11 = .error .noSuchIndex ∧
    hostReadPayload ready 0 = .error .noValue ∧ hostReadEnv broken 0 = .error .noValue ∧
    hostReadStatus broken = 2#2 ∧ hostReadCause broken = 0x01#5 ∧ hostReadEnvLen done = 184#16 ∧
    hostReadLength done = .ok 182 ∧ memRead done.env 2 2 = some 182 := by decide +kernel

/-- Lines of a program (R60, R61). -/
theorem test_assemble :
    assemble (.encode cool) = some ⟨0x00160993#32, true, false⟩ ∧
    assemble (.encodeModeOmitted .off .auto .stop .stop .off 24) = some ⟨0x00180B00#32, true, false⟩ ∧
    assemble (.encodeW 0x00000380#32) = some ⟨0x00000380#32, true, false⟩ ∧
    assemble .reset = some ⟨0#32, false, true⟩ ∧
    assemble (.encode { cool with targetTemperature := 32768 }) = none := by decide

/-- Printed forms (R60 to R62). -/
theorem test_text :
    (AsmLine.encodeW 0x00000380#32).text = "ENCODE.W 0x00000380" ∧
    (AsmLine.encode exampleCommand).text =
      "ENCODE CommandState" ++ openBrace.toString ++
        "power=Off, mode=Auto, fan=Auto, vswing=Stop, hswing=Stop, clean=Off, targetTemperature=24" ++
        closeBrace.toString ∧
    bytesText (bytes 4 0x26000D05) = "26 00 0D 05" ∧ trainText [106, 53, 14] = "106, 53, 14" := by decide +kernel

/-- Reading the printed line gives the line back, blanks and line ends inside it or not; other text is no line. -/
theorem test_read_line :
    readLine (AsmLine.encode { cool with targetTemperature := -5 }).text =
      some (.encode { cool with targetTemperature := -5 }) ∧
    readLine ("ENCODE CommandState" ++ openBrace.toString ++ "power=Off, fan=Auto, vswing=Stop,\n      hswing=Stop, " ++
      "clean=Off, targetTemperature=24" ++ closeBrace.toString) =
      some (.encodeModeOmitted .off .auto .stop .stop .off 24) ∧
    readLine "ENCODE.W 0x00180b00" = some (.encodeW 0x00180B00#32) ∧ readLine "RESET" = some .reset ∧
    readLine "ENCODE.W 0x100180B00" = none ∧
    readLine ("ENCODE CommandState" ++ openBrace.toString ++ "power=Off" ++ closeBrace.toString) = none := by
  decide +kernel

/-! ## Witnesses: for each statement with hypotheses, values that meet them, at the edges of their ranges -/

/-- `Legal` at the largest selectors, and not at the next. -/
theorem witness_DecodeCommandWord :
    Legal 0xFFFF0B5B#32 ∧ ¬Legal 0x0000000C#32 ∧ ¬Legal 0x00000060#32 ∧ ¬Legal 0x00000380#32 ∧
    ¬Legal 0x00000400#32 ∧ ¬Legal 0x00001000#32 ∧ (-32768 : Int) ≤ { cool with targetTemperature := -32768 }.targetTemperature ∧
    { cool with targetTemperature := 32767 }.targetTemperature ≤ (32767 : Int) := by
  unfold Legal; decide

/-- A block that is not in FAULT and a word that is refused. -/
theorem witness_IllegalCommandWords :
    ready.status ≠ .fault ∧ done.status ≠ .fault ∧ ∃ k, decodeCmdw 0x0000000C#32 = .error k :=
  ⟨by decide, by decide +kernel, 0x01#5, by decide⟩

/-- Well-formed instructions of both kinds, and a command at the edge of the field. -/
theorem witness_InstructionIsAReadingOfItsWord :
    (Instr.encodeModeReserved6 0x0000000C#32).wellFormed = true ∧ Instr.encodeModeReserved6 0x0000000C#32 ≠ .reset ∧
    (Instr.encodeTempFallback { cool with targetTemperature := 31 }).wellFormed = true ∧
    { cool with targetTemperature := -32768 }.representable = true := by decide

/-- A reading that is not the one the decoder answers, of a legal and of an illegal word. -/
theorem witness_ReadingsOfAWordHaveOneEffect :
    (.encodeTempFallback zero ∈ readings 0#32 ∧ decodeWord 0#32 ≠ .encodeTempFallback zero) ∧
    .encodeHswingReserved1 0x00001400#32 ∈ readings 0x00001400#32 ∧
    decodeWord 0x00001400#32 ≠ .encodeHswingReserved1 0x00001400#32 := by decide

/-- Readings of both kinds. -/
theorem witness_ReadingsMatchTheirRows :
    .envelopeFrame cool ∈ readings 0x00160993#32 ∧
    .encodeReservedBits 0x00008000#32 ∈ readings 0x00008000#32 := by decide

/-- Both sides of 32 bits. -/
theorem witness_CommandWordsAreThirtyTwoBits : 32 ≤ 32 ∧ 32 < 33 := by decide

/-- Samples for the three cases, the two strobes together among them. -/
theorem witness_StepPerformsWhatThePortsSelect :
    (present ⟨0#32, true, true⟩ ready).inputs = ⟨0#32, true, true⟩ :: [] ∧
    (present ⟨0x00180B00#32, true, false⟩ done).inputs = ⟨0x00180B00#32, true, false⟩ :: [] ∧
    (present ⟨0#32, false, false⟩ broken).inputs = ⟨0#32, false, false⟩ :: [] := by decide +kernel

/-- No sample. -/
theorem witness_StepWithoutInputChangesNothing : ready.inputs = [] ∧ broken.inputs = [] := by decide

/-- A sample of a command and one of a word that names none. -/
theorem witness_EncodeRunsThePipeline :
    (ready.withFetchWord 32 0x00160993).inputs = [⟨0x00160993#32, true, false⟩] ∧
    (ready.withFetchWord 32 0x00160993).status ≠ .fault ∧ decodeCmdw 0x00160993#32 = .ok cool ∧
    (ready.withFetchWord 32 0x00000400).inputs = [⟨0x00000400#32, true, false⟩] ∧
    decodeCmdw 0x00000400#32 = .error 0x08#5 := by decide

/-- A step that takes a sample. -/
theorem witness_StepKeepsConfiguration :
    step (present ⟨0#32, false, true⟩ broken) = .next ready := rfl

/-- A block that is not in FAULT, for the statements about what each row completes with. -/
theorem witness_RowsComplete : ready.status ≠ .fault := by decide

/-- The reserved rows: a word for each, and one that meets the condition of several. -/
theorem witness_ReservedRowsTakeInvalidCommand :
    ready.status ≠ .fault ∧ numR 0x00008000#32 ≠ 0 ∧ numM 0x0000000C#32 = 6 ∧ numM 0x0000000E#32 = 7 ∧
    numF 0x00000060#32 = 6 ∧ numF 0x00000070#32 = 7 ∧ numV 0x00000380#32 = 7 ∧ numH 0x00000400#32 = 1 ∧
    (numR 0x0000F7FE#32 ≠ 0 ∧ numM 0x0000F7FE#32 = 7 ∧ numF 0x0000F7FE#32 = 7 ∧ numV 0x0000F7FE#32 = 7 ∧
      numH 0x0000F7FE#32 = 1) := by decide

/-- The relations between the latches hold at reset. -/
theorem ready_invariant : LatchInvariant ready where
  canonical := rfl
  bounded := ⟨fun x h => (List.not_mem_nil h).elim, by decide⟩
  causeOfFault := by decide
  withdrawn := fun _ => ⟨rfl, rfl, rfl⟩
  result := fun h => absurd h (by decide)

/-- They hold in FAULT. -/
theorem broken_invariant : LatchInvariant broken where
  canonical := rfl
  bounded := ⟨fun x h => (List.not_mem_nil h).elim, by decide⟩
  causeOfFault := by decide
  withdrawn := fun _ => ⟨rfl, rfl, rfl⟩
  result := fun h => absurd h (by decide)

/-- What the source's example leaves, as an update of the reset state. -/
theorem done_eq : done = commit (payloadOf ready exampleCommand) (envelopeOf ready exampleCommand) ready := rfl

/-- A result of 184 bytes meets the relations between the latches. -/
theorem commit_invariant (s : State) (c : CommandState) (h : (envelopeOf s c).length = 184) :
    LatchInvariant (commit (payloadOf s c) (envelopeOf s c) s) where
  canonical := memPutAll_sorted _ 0 rfl
  bounded := by
    have hl : (BitVec.ofNat 16 (envelopeOf s c).length).toNat = 184 := by rw [h]; rfl
    refine ⟨fun x hx => ?_, hl.symm ▸ by decide⟩
    have := mem_memPutAll _ 0 hx
    simp only [h, List.not_mem_nil, or_false] at this
    exact hl.symm ▸ (by omega)
  causeOfFault := ⟨fun h => absurd rfl h, fun h => nomatch h⟩
  withdrawn := fun h => absurd rfl h
  result := fun _ => ⟨payloadOf s c, rfl, ⟨rfl, rfl, rfl, rfl⟩, by rw [commit, h]; rfl,
    fun j => memByte_envelope j (envelopeOf s c)⟩

/-- They hold with a result. -/
theorem done_invariant : LatchInvariant done :=
  done_eq.symm ▸ commit_invariant ready exampleCommand (by decide +kernel)

/-- RESET leaves FAULT; and a block that is IDLE. -/
theorem witness_ResetClearsEveryLatch :
    broken.status = .fault ∧ exec .reset broken = .next ready ∧ ready.status ≠ .fault ∧ LatchInvariant ready ∧
    ready.status = .idle :=
  ⟨by decide, rfl, by decide, ready_invariant, rfl⟩

/-- A block in FAULT, and an instruction that is not RESET. -/
theorem witness_FaultIsStickyUntilReset : broken.status = .fault ∧ Instr.encode cool ≠ .reset := by decide

/-- A step out of FAULT. -/
theorem witness_OnlyResetLeavesFault :
    (present ⟨0#32, false, true⟩ broken).status = .fault ∧
    step (present ⟨0#32, false, true⟩ broken) = .next ready ∧ ready.status ≠ .fault := ⟨by decide, rfl, by decide⟩

/-- A step into FAULT. -/
theorem witness_OnlyIllegalWordsFault :
    (ready.withFetchWord 32 0x0000000C).status ≠ .fault ∧ step (ready.withFetchWord 32 0x0000000C) = .next broken ∧
    broken.status = .fault := ⟨by decide, rfl, by decide⟩

/-- Two states that differ in the earlier result alone. -/
theorem witness_EarlierResultsHaveNoInfluence :
    ready ≠ done ∧ ready.cfg = done.cfg ∧ ready.inputs = done.inputs ∧ ready.status ≠ .fault ∧ done.status ≠ .fault := by
  decide +kernel

/-- An instruction that goes on. -/
theorem witness_RepeatingAnInstructionChangesNothing : exec (.encode exampleCommand) ready = .next done := rfl

/-- Both ends of the range, and one temperature is 24. -/
theorem witness_OutOfRangeTemperatureActsAsTwentyFour :
    ((17 : Int) ≤ 17 ∨ (31 : Int) ≤ 17) ∧ ((31 : Int) ≤ 17 ∨ (31 : Int) ≤ 31) := by decide

/-- A step from a state that meets the invariant, to a result and to FAULT. -/
theorem witness_StepKeepsLatchInvariant :
    LatchInvariant ready ∧ LatchInvariant done ∧ LatchInvariant broken ∧ step done = .next done ∧
    step broken = .next broken := ⟨ready_invariant, done_invariant, broken_invariant, rfl, rfl⟩

/-- The clauses of the host's reads at their edges: with a result, and without one. -/
theorem witness_HostReadsOnlyResults :
    LatchInvariant done ∧ done.status = .done ∧ 10 < 11 ∧ 11 ≤ 11 ∧ 183 < done.envLen.toNat ∧
    ¬(done.status = .done ∧ 184 < done.envLen.toNat) ∧ 361 < 362 ∧ 362 ≤ 362 ∧ LatchInvariant broken ∧
    broken.status ≠ .done :=
  ⟨done_invariant, rfl, by decide, by decide, by decide +kernel, by decide +kernel, by decide, by decide,
    broken_invariant, by decide⟩

/-- A completed transaction, and the last index of its body. -/
theorem witness_EnvelopeLayoutByIndex :
    ready.status ≠ .fault ∧ exec (.encode exampleCommand) ready = .next done ∧
    177 < (fbBody (fbTrain ready.cfg.val (payloadOf ready exampleCommand))).length :=
  ⟨by decide, rfl, by decide +kernel⟩

/-- A state with a result. -/
theorem witness_HostSendsTheWholeEnvelope : LatchInvariant done ∧ done.status = .done := ⟨done_invariant, rfl⟩

/-- The sample of the source's example. -/
theorem witness_SourceExampleInEveryConfiguration :
    (ready.withFetchWord 32 0x00180B00).inputs = ⟨exampleWord, true, false⟩ :: [] ∧
    (ready.withFetchWord 32 0x00180B00).status ≠ .fault := by decide

/-- Two commands with the same three data bytes: the default codes do not tell Maintenance from Cool (2.3). -/
theorem witness_PayloadHasFortyFourOnes :
    let k := defaultCodes
    let d := { cool with mode := .maintenance }
    d ≠ cool ∧ (pmEncode k cool)[5] = (pmEncode k d)[5] ∧ (pmEncode k cool)[7] = (pmEncode k d)[7] ∧
    (pmEncode k cool)[9] = (pmEncode k d)[9] := by decide

/-- A multiple of 8192, a base that is none, and two bases in order. -/
theorem witness_ScaleIsTheExactCeiling : 8192 ∣ 8192 ∧ ¬8192 ∣ 8193 ∧ 7765 ≤ 7766 := by decide

/-- The last byte, bit and position; and trains with one-byte items, at the edge of one byte. -/
theorem witness_TrainPositions :
    10 < 11 ∧ 7 < 8 ∧ 177 < 178 ∧ (∀ v ∈ fbTrain defaultParams (Vector.replicate 11 0x52#8), v < 256) ∧
    ∀ v ∈ fbTrain { defaultParams with tZeroSpace := 7765 } (Vector.replicate 11 0x52#8), v < 256 := by
  decide +kernel

/-- The largest duration. -/
theorem witness_DurationItem : 65535 ≤ 65535 ∧ 255 < 256 ∧ ¬256 < 256 := by decide

/-- Two different spaces below 256, and two equal ones. -/
theorem witness_EnvelopeTellsPayloadsApart :
    peScale defaultParams.tOneSpace ≠ peScale defaultParams.tZeroSpace ∧ peScale defaultParams.tOneSpace < 256 ∧
    peScale { defaultParams with tZeroSpace := 7765 }.tZeroSpace = 255 ∧
    peScale { defaultParams with tZeroSpace := 426 }.tOneSpace =
      peScale { defaultParams with tZeroSpace := 426 }.tZeroSpace := by decide

/-- Well-formed parameters at the largest base, and a duration of their train. -/
theorem witness_EveryDurationFits :
    ({ defaultParams with tBitMark := 1995772 } : Params).WellFormed ∧
    65535 ∈ fbTrain { defaultParams with tBitMark := 1995772 } (Vector.replicate 11 0x52#8) := by decide +kernel

/-- Parameters of each of the three kinds. -/
theorem witness_ConfigureRefusesOtherParameters :
    defaultParams.Conforming ∧ (longZeros.WellFormed ∧ ¬longZeros.Conforming) ∧
    ¬({ defaultParams with tBitMark := 1995773 } : Params).WellFormed := by decide

/-- A command a word can carry and one it cannot. -/
theorem witness_AssembledLinesSelectTheirOperation :
    { cool with targetTemperature := 32767 }.representable = true ∧
    { cool with targetTemperature := 32768 }.representable = false := by decide

end Sys2Proof.Tests
end

section
/-!
PROOFS. What the host reads in the output buffer after a completed ENCODE: the buffer is never exceeded, so every
index of the envelope reads as its byte, and the envelope's layout gives the bytes (R14, R19, R36).
-/

namespace Sys2Proof.Machine

section Body
variable (p : Params) (f : PayloadFrame)

/-- An item is at most two bytes, so a body is at most two bytes for each duration. -/
theorem fbBody_length_le (d : List Nat) : (fbBody d).length ≤ 2 * d.length := by
  induction d with
  | nil => exact Nat.le_refl 0
  | cons v d ih =>
    have hv := (fbSize_bounds v).2
    simp only [fbBody_length, List.map_cons, List.sum_cons, List.length_cons] at ih ⊢
    omega

/-- The output buffer holds the envelope of every payload, whatever the timing constants (R14, D17). -/
theorem fbEnv_length_le_envMax : (fbEnv p f).length ≤ envMax := by
  have hbody := fbBody_length_le (fbTrain p f)
  rw [fbTrain_length] at hbody
  rw [fbEnv, envelopeLayout_length, envMax]
  omega

end Body

section Layout
variable (y : List Byte)

/-- The body stands behind the four header bytes (R36). -/
theorem envelopeLayout_body {j : Nat} (h : j < y.length) : (envelopeLayout y)[4 + j]? = y[j]? := by
  rw [envelopeLayout, List.append_assoc, List.getElem?_append_right (by simp), List.getElem?_append_left (by simpa)]
  simp

/-- The trailer stands behind the body (R36, R114). -/
theorem envelopeLayout_trailer (k : Nat) : (envelopeLayout y)[4 + y.length + k]? = fixedParams.trailer[k]? := by
  have hfront : ([fixedParams.cmdType, fixedParams.repeatCount, BitVec.ofNat 8 (fbLen y),
      BitVec.ofNat 8 (fbLen y >>> 8)] ++ y).length = 4 + y.length := by
    rw [List.length_append]
    rfl
  rw [envelopeLayout, List.getElem?_append_right (by omega), hfront, Nat.add_sub_cancel_left]

/-- The low byte of the length field (R109, R32). -/
theorem toNat_fbLen_low : (BitVec.ofNat 8 (fbLen y)).toNat = (y.length + 4) % 256 := BitVec.toNat_ofNat _ _

/-- The high byte of the length field (R109, R32). -/
theorem toNat_fbLen_high : (BitVec.ofNat 8 (fbLen y >>> 8)).toNat = (y.length + 4) / 256 % 256 := by
  rw [BitVec.toNat_ofNat, Nat.shiftRight_eq_div_pow, fbLen, fixed_lenAdj]

end Layout

section Read
variable {e : List Byte} (f : PayloadFrame) (s : State)

/-- The length latch does not wrap for an envelope that the buffer holds (R14). -/
theorem commit_envLen_toNat (he : e.length ≤ envMax) : (commit f e s).envLen.toNat = e.length := by
  have hmax : envMax < 2 ^ 16 := by decide
  rw [commit_envLen, BitVec.toNat_ofNat, Nat.mod_eq_of_lt (by omega)]

/-- After a completed ENCODE the host reads every byte of the envelope at its index (R19, R133). -/
theorem hostReadEnv_commit (he : e.length ≤ envMax) {j : Nat} {b : Byte} (hb : e[j]? = some b) :
    hostReadEnv (commit f e s) j = .ok b := by
  obtain ⟨hj, -⟩ := List.getElem?_eq_some_iff.1 hb
  have hread : (commit f e s).status = .done ∧ j < (commit f e s).envLen.toNat :=
    ⟨commit_status s f e, by rwa [commit_envLen_toNat f s he]⟩
  rw [hostReadEnv, if_pos (by omega), decide_eq_true hread, commit_env, memByte_envelope, hb]

end Read

/-- Settles O34: outside FAULT an ENCODE commits the envelope of its payload, which the buffer holds whole, so each
read of the host is an index of the envelope's layout. -/
theorem envelopeLayoutByIndex : Obligations.EnvelopeLayoutByIndex := by
  unfold Obligations.EnvelopeLayoutByIndex
  intro s t c hready hexec
  obtain ⟨hfault, -⟩ | ⟨-, rfl⟩ := transact_cases hexec
  · exact absurd hfault hready
  have hfit := fbEnv_length_le_envMax s.cfg.val (payloadOf s c)
  have hlen := commit_envLen_toNat (payloadOf s c) s hfit
  have hread {j b} := hostReadEnv_commit (payloadOf s c) s hfit (j := j) (b := b)
  rw [envelopeOf]
  rw [fbEnv] at hlen hread ⊢
  refine ⟨payloadOf s c, _, rfl, hlen.trans (envelopeLayout_length _), rfl, hread rfl, hread rfl,
    ⟨_, _, hread rfl, hread rfl, toNat_fbLen_low _, toNat_fbLen_high _⟩, fun j hj => ?_,
    hread (envelopeLayout_trailer _ 0), hread (envelopeLayout_trailer _ 1)⟩
  have hbyte := List.getElem?_eq_getElem hj
  rw [hread ((envelopeLayout_body _ hj).trans hbyte), hbyte]
  rfl

end Sys2Proof.Machine
end

section
/-!
PROOFS. A command word as its fields: the claims' numbers are the model's fields, a word is the sum of its shifted
fields (R47), and the words whose reserved bits are 0 are exactly those the encoder's layout builds.
-/

namespace Sys2Proof.Machine

open Sys2Proof.Claims

section Fields
variable (w : Word)

@[simp] theorem numP_eq_fieldP : numP w = (fieldP w).toNat := by
  simp [numP, fieldP, BitVec.extractLsb'_toNat]

@[simp] theorem numM_eq_fieldM : numM w = (fieldM w).toNat := by
  simp [numM, fieldM, BitVec.extractLsb'_toNat, Nat.shiftRight_eq_div_pow]

@[simp] theorem numF_eq_fieldF : numF w = (fieldF w).toNat := by
  simp [numF, fieldF, BitVec.extractLsb'_toNat, Nat.shiftRight_eq_div_pow]

@[simp] theorem numV_eq_fieldV : numV w = (fieldV w).toNat := by
  simp [numV, fieldV, BitVec.extractLsb'_toNat, Nat.shiftRight_eq_div_pow]

@[simp] theorem numH_eq_fieldH : numH w = (fieldH w).toNat := by
  simp [numH, fieldH, BitVec.extractLsb'_toNat, Nat.shiftRight_eq_div_pow]

@[simp] theorem numC_eq_fieldC : numC w = (fieldC w).toNat := by
  simp [numC, fieldC, BitVec.extractLsb'_toNat, Nat.shiftRight_eq_div_pow]

@[simp] theorem numR_eq_fieldR : numR w = (fieldR w).toNat := by
  simp [numR, fieldR, BitVec.extractLsb'_toNat, Nat.shiftRight_eq_div_pow]

/-- The top field is all that is left above bit 16. -/
theorem fieldT_toNat : (fieldT w).toNat = w.toNat / 65536 := by
  have hw := w.isLt
  rw [fieldT, BitVec.extractLsb'_toNat, Nat.shiftRight_eq_div_pow]
  omega

/-- `T` read as a signed number (R49). -/
@[simp] theorem numT_eq_fieldT : numT w = temperatureAt (fieldT w) := by
  rw [numT, temperatureAt, BitVec.toInt_eq_toNat_cond, fieldT_toNat]
  split <;> split <;> omega

/-- Every word is the sum of its fields at their bit positions (R47). -/
theorem toNat_eq_sum_fields : w.toNat = (fieldP w).toNat + 2 * (fieldM w).toNat + 16 * (fieldF w).toNat +
    128 * (fieldV w).toNat + 1024 * (fieldH w).toNat + 2048 * (fieldC w).toNat + 4096 * (fieldR w).toNat +
    65536 * (fieldT w).toNat := by
  rw [← numP_eq_fieldP, ← numM_eq_fieldM, ← numF_eq_fieldF, ← numV_eq_fieldV, ← numH_eq_fieldH, ← numC_eq_fieldC,
    ← numR_eq_fieldR, fieldT_toNat]
  simp only [numP, numM, numF, numV, numH, numC, numR]
  omega

end Fields

/-- The layout of R47 as a sum. -/
theorem wordOfFields_toNat (p : BitVec 1) (m f v : BitVec 3) (h c : BitVec 1) (t : BitVec 16) :
    (wordOfFields p m f v h c t).toNat = p.toNat + 2 * m.toNat + 16 * f.toNat + 128 * v.toNat + 1024 * h.toNat +
      2048 * c.toNat + 65536 * t.toNat := by
  rw [toNat_eq_sum_fields]
  simp

/-- A word without reserved bits is rebuilt from its fields (R47). -/
theorem wordOfFields_fields {w : Word} (hr : fieldR w = 0#4) :
    wordOfFields (fieldP w) (fieldM w) (fieldF w) (fieldV w) (fieldH w) (fieldC w) (fieldT w) = w := by
  apply BitVec.eq_of_toNat_eq
  rw [wordOfFields_toNat, toNat_eq_sum_fields w, hr]
  simp

end Sys2Proof.Machine
end

section
/-!
PROOFS. The selectors (R48): each is the place of its value in the source's listing, a selector in range names the
value at its place, and a value is the one its own selector names. The temperature field holds every 16-bit
temperature (R49).
-/

namespace Sys2Proof.Machine

open Sys2Proof.Claims

@[simp] theorem powerSel_toNat (x : Power) : (powerSel x).toNat = powers.idxOf x := by cases x <;> rfl
@[simp] theorem modeSel_toNat (x : Mode) : (modeSel x).toNat = modes.idxOf x := by cases x <;> rfl
@[simp] theorem fanSel_toNat (x : Fan) : (fanSel x).toNat = fans.idxOf x := by cases x <;> rfl
@[simp] theorem vswingSel_toNat (x : VSwing) : (vswingSel x).toNat = vswings.idxOf x := by cases x <;> rfl
@[simp] theorem cleanSel_toNat (x : Clean) : (cleanSel x).toNat = cleans.idxOf x := by cases x <;> rfl
@[simp] theorem hswingSel_eq_zero (x : HSwing) : hswingSel x = 0#1 := rfl

theorem modeSel_le (x : Mode) : (modeSel x).toNat ≤ 5 := by cases x <;> decide
theorem fanSel_le (x : Fan) : (fanSel x).toNat ≤ 5 := by cases x <;> decide
theorem vswingSel_le (x : VSwing) : (vswingSel x).toNat ≤ 6 := by cases x <;> decide

@[simp] theorem powerAt_powerSel (x : Power) : powerAt (powerSel x) = x := by cases x <;> rfl
@[simp] theorem modeAt_modeSel (x : Mode) : modeAt (modeSel x) = x := by cases x <;> rfl
@[simp] theorem fanAt_fanSel (x : Fan) : fanAt (fanSel x) = x := by cases x <;> rfl
@[simp] theorem vswingAt_vswingSel (x : VSwing) : vswingAt (vswingSel x) = x := by cases x <;> rfl
@[simp] theorem cleanAt_cleanSel (x : Clean) : cleanAt (cleanSel x) = x := by cases x <;> rfl

theorem powers_getElem? : ∀ p : BitVec 1, powers[p.toNat]? = some (powerAt p) := by decide
theorem modes_getElem? : ∀ m : BitVec 3, m.toNat ≤ 5 → modes[m.toNat]? = some (modeAt m) := by decide
theorem fans_getElem? : ∀ f : BitVec 3, f.toNat ≤ 5 → fans[f.toNat]? = some (fanAt f) := by decide
theorem vswings_getElem? : ∀ v : BitVec 3, v.toNat ≤ 6 → vswings[v.toNat]? = some (vswingAt v) := by decide
theorem cleans_getElem? : ∀ c : BitVec 1, cleans[c.toNat]? = some (cleanAt c) := by decide

/-- The temperature field is the temperature modulo 2^16 (R47). -/
theorem temperatureBits_toNat (t : Int) : ((temperatureBits t).toNat : Int) = t % 65536 := by
  rw [temperatureBits, BitVec.toNat_ofInt]
  omega

/-- A temperature that fits 16 bits is read back (R49). -/
theorem temperatureAt_temperatureBits {t : Int} (hlow : -32768 ≤ t) (hhigh : t ≤ 32767) :
    temperatureAt (temperatureBits t) = t := by
  rw [temperatureAt, BitVec.toInt_eq_toNat_cond]
  have ht := temperatureBits_toNat t
  split <;> omega

/-- A command that a word can carry is what the fields of its word name (R50). -/
theorem commandAt_encodeCmdw (c : CommandState) (hlow : -32768 ≤ c.targetTemperature)
    (hhigh : c.targetTemperature ≤ 32767) : commandAt (encodeCmdw c) = c := by
  simp only [commandAt, encodeCmdw, fieldP_word, fieldM_word, fieldF_word, fieldV_word, fieldC_word, fieldT_word,
    powerAt_powerSel, modeAt_modeSel, fanAt_fanSel, vswingAt_vswingSel, cleanAt_cleanSel,
    temperatureAt_temperatureBits hlow hhigh]

/-- Settles O2: the layout as a sum, with each selector the place of its value in the listing. -/
theorem commandWordLayout : Obligations.CommandWordLayout := by
  unfold Obligations.CommandWordLayout
  intro c
  rw [encodeCmdw, wordOfFields_toNat, ← temperatureBits_toNat]
  simp

end Sys2Proof.Machine
end

section
/-!
PROOFS. Which words are legal (R51): the cause mask reports each invalid part by its own bit, so it is 0 exactly for a
legal word, and this is what DecodeCMDW tests (R50).
-/

namespace Sys2Proof.Machine

open Sys2Proof.Claims

section Cause
variable {w : Word} {k : BitVec 5}

/-- Legality on the model's fields. -/
theorem legal_iff_fields : Legal w ↔ (fieldM w).toNat ≤ 5 ∧ (fieldF w).toNat ≤ 5 ∧ (fieldV w).toNat ≤ 6 ∧
    fieldH w = 0#1 ∧ fieldR w = 0#4 := by
  simp [Legal, BitVec.toNat_eq]

/-- A word is illegal by one of its five parts (R51). -/
theorem not_legal_iff : ¬Legal w ↔ 6 ≤ numM w ∨ 6 ≤ numF w ∨ numV w = 7 ∨ numH w = 1 ∨ numR w ≠ 0 := by
  have hv : numV w < 8 := Nat.mod_lt _ (by decide)
  have hh : numH w < 2 := Nat.mod_lt _ (by decide)
  rw [Legal]
  omega

/-- A bit of a test's mask is set when the test succeeds and the bit is in the mask. -/
theorem getLsbD_ite_zero (q : Prop) [Decidable q] (mask : BitVec 5) (i : Nat) :
    (if q then mask else 0#5).getLsbD i = (decide q && mask.getLsbD i) := by
  split <;> simp_all

/-- The five tests of DecodeCMDW set five different bits (R15, R50). -/
theorem causeReports_causeOf (w : Word) : CauseReports w (causeOf w) := by
  simp only [CauseReports, causeOf, BitVec.getLsbD_or, getLsbD_ite_zero]
  simp [badMode, badFan, badVswing, badHswing, badReserved, BitVec.toNat_eq]

theorem mask_ne_zero_iff_bit : ∀ k : BitVec 5, k ≠ 0#5 ↔ k.getLsbD 0 = true ∨ k.getLsbD 1 = true ∨
    k.getLsbD 2 = true ∨ k.getLsbD 3 = true ∨ k.getLsbD 4 = true := by decide

/-- A mask that reports the invalid parts is 0 exactly where there are none. -/
theorem ne_zero_iff_not_legal_of_causeReports (hk : CauseReports w k) : k ≠ 0#5 ↔ ¬Legal w := by
  obtain ⟨hmode, hfan, hvswing, hhswing, hreserved⟩ := hk
  rw [mask_ne_zero_iff_bit, not_legal_iff, hmode, hfan, hvswing, hhswing, hreserved]

theorem causeOf_ne_zero_iff : causeOf w ≠ 0#5 ↔ ¬Legal w :=
  ne_zero_iff_not_legal_of_causeReports (causeReports_causeOf w)

end Cause

section Decode
variable {w : Word}

theorem decodeCmdw_of_legal (h : Legal w) : decodeCmdw w = .ok (commandAt w) :=
  if_neg fun hcause => causeOf_ne_zero_iff.1 hcause h

theorem decodeCmdw_of_not_legal (h : ¬Legal w) : decodeCmdw w = .error (causeOf w) :=
  if_pos (causeOf_ne_zero_iff.2 h)

theorem decodeCmdw_ok_iff_legal : (∃ c, decodeCmdw w = .ok c) ↔ Legal w := by
  by_cases h : Legal w
  · simp [decodeCmdw_of_legal h, h]
  · simp [decodeCmdw_of_not_legal h, h]

theorem decodeCmdw_error_iff_not_legal : (∃ k, decodeCmdw w = .error k) ↔ ¬Legal w := by
  by_cases h : Legal w
  · simp [decodeCmdw_of_legal h, h]
  · simp [decodeCmdw_of_not_legal h, h]

/-- The fields of a legal word name the values at their selectors' places (R48, R49). -/
theorem namedBy_commandAt (h : Legal w) : NamedBy w (commandAt w) := by
  obtain ⟨hm, hf, hv, -, -⟩ := legal_iff_fields.1 h
  simp only [NamedBy, numP_eq_fieldP, numM_eq_fieldM, numF_eq_fieldF, numV_eq_fieldV, numC_eq_fieldC, numT_eq_fieldT]
  exact ⟨powers_getElem? _, modes_getElem? _ hm, fans_getElem? _ hf, vswings_getElem? _ hv, cleans_getElem? _, rfl⟩

/-- The encoder writes legal words only (R47). -/
theorem legal_encodeCmdw (c : CommandState) : Legal (encodeCmdw c) := by
  rw [legal_iff_fields, encodeCmdw, fieldM_word, fieldF_word, fieldV_word, fieldH_word, fieldR_word]
  exact ⟨modeSel_le _, fanSel_le _, vswingSel_le _, hswingSel_eq_zero _, rfl⟩

end Decode

/-- Settles O1: the cause mask is 0 exactly for a legal word, whose fields name the command; the encoder writes legal
words, whose fields name the command they were written for. -/
theorem decodeCommandWord : Obligations.DecodeCommandWord := by
  unfold Obligations.DecodeCommandWord
  refine ⟨fun w h => ⟨commandAt w, decodeCmdw_of_legal h, namedBy_commandAt h⟩,
    fun w h => ⟨causeOf w, decodeCmdw_of_not_legal h, causeOf_ne_zero_iff.2 h, causeReports_causeOf w⟩,
    fun c hlow hhigh => ?_⟩
  rw [decodeCmdw_of_legal (legal_encodeCmdw c), commandAt_encodeCmdw c hlow hhigh]

end Sys2Proof.Machine
end

section
/-!
PROOFS. The illegal command words (R51): how many words are legal, by their independent fields; and that every
reserved row of a word, and so the row the decoder answers for an illegal word, takes InvalidCommand with the cause of
the word (R145).
-/

namespace Sys2Proof.Machine

open Sys2Proof.Claims

/-- The free fields of a legal command word: `P`, `M`, `F`, `V`, `C` and `T`. -/
abbrev LegalFields := BitVec 1 × { m : BitVec 3 // m.toNat ≤ 5 } × { f : BitVec 3 // f.toNat ≤ 5 } ×
  { v : BitVec 3 // v.toNat ≤ 6 } × BitVec 1 × BitVec 16

/-- The legal word of a choice of its free fields (R47). -/
def legalWordOf : LegalFields → { w : Word // Legal w } := fun (p, m, f, v, c, t) =>
  ⟨wordOfFields p m f v 0#1 c t, legal_iff_fields.2 (by simpa using ⟨m.2, f.2, v.2⟩)⟩

theorem legalWordOf_injective : legalWordOf.Injective := by
  intro x y h
  have hword := congrArg Subtype.val h
  have hP := congrArg fieldP hword
  have hM := congrArg fieldM hword
  have hF := congrArg fieldF hword
  have hV := congrArg fieldV hword
  have hC := congrArg fieldC hword
  have hT := congrArg fieldT hword
  simp only [legalWordOf, fieldP_word, fieldM_word, fieldF_word, fieldV_word, fieldC_word, fieldT_word] at *
  simp [Prod.ext_iff, Subtype.ext_iff, *]

theorem legalWordOf_surjective : legalWordOf.Surjective := by
  intro ⟨w, hw⟩
  obtain ⟨hm, hf, hv, hh, hr⟩ := legal_iff_fields.1 hw
  refine ⟨(fieldP w, ⟨fieldM w, hm⟩, ⟨fieldF w, hf⟩, ⟨fieldV w, hv⟩, fieldC w, fieldT w), Subtype.ext ?_⟩
  have hword := wordOfFields_fields hr
  rwa [hh] at hword

theorem card_bitVec (n : Nat) : Nat.card (BitVec n) = 2 ^ n := by
  rw [Nat.card_congr BitVec.equivFin.toEquiv, Nat.card_fin]

/-- The number of legal words is the product of the numbers of choices for each field (R51). -/
theorem card_legal : Nat.card { w : Word // Legal w } = 66060288 := by
  have hsix : Nat.card { m : BitVec 3 // m.toNat ≤ 5 } = 6 := by rw [Nat.card_eq_fintype_card]; rfl
  have hseven : Nat.card { v : BitVec 3 // v.toNat ≤ 6 } = 7 := by rw [Nat.card_eq_fintype_card]; rfl
  rw [← Nat.card_eq_of_bijective legalWordOf ⟨legalWordOf_injective, legalWordOf_surjective⟩]
  simp only [LegalFields, Nat.card_prod, hsix, hseven, card_bitVec]
  decide

section Reserved
variable {w : Word} {i : Instr}

/-- Adding a cause bit that is set changes nothing. -/
theorem or_twoPow_of_getLsbD {k : BitVec 5} {j : Nat} (h : k.getLsbD j = true) : k ||| BitVec.twoPow 5 j = k := by
  apply BitVec.eq_of_getLsbD_eq
  intro n hn
  by_cases hj : j = n
  · subst hj; simp [h]
  · simp [hj]

/-- A reserved mode row stands for a reserved mode selector. -/
theorem workOf_reservedModeRow (h : i ∈ reservedModeRows w) :
    6 ≤ numM w ∧ workOf i = .invalid (causeOf w ||| badMode) := by
  rw [numM_eq_fieldM]
  unfold reservedModeRows at h
  split at h
  · cases List.mem_singleton.1 h; exact ⟨by omega, rfl⟩
  · cases List.mem_singleton.1 h; exact ⟨by omega, rfl⟩
  · cases h

/-- A reserved fan row stands for a reserved fan selector. -/
theorem workOf_reservedFanRow (h : i ∈ reservedFanRows w) :
    6 ≤ numF w ∧ workOf i = .invalid (causeOf w ||| badFan) := by
  rw [numF_eq_fieldF]
  unfold reservedFanRows at h
  split at h
  · cases List.mem_singleton.1 h; exact ⟨by omega, rfl⟩
  · cases List.mem_singleton.1 h; exact ⟨by omega, rfl⟩
  · cases h

/-- What a reserved row of a word is: the word has the reserved part, and the row takes InvalidCommand with the bit of
that part added to the word's cause (R145). -/
theorem workOf_reservedRow_cases (h : i ∈ reservedRows w) :
    (6 ≤ numM w ∧ workOf i = .invalid (causeOf w ||| badMode)) ∨
    (6 ≤ numF w ∧ workOf i = .invalid (causeOf w ||| badFan)) ∨
    (numV w = 7 ∧ workOf i = .invalid (causeOf w ||| badVswing)) ∨
    (numH w = 1 ∧ workOf i = .invalid (causeOf w ||| badHswing)) ∨
    (numR w ≠ 0 ∧ workOf i = .invalid (causeOf w ||| badReserved)) := by
  simp only [reservedRows, List.mem_append, List.mem_ite_nil_right, List.mem_singleton] at h
  obtain (((⟨hr, rfl⟩ | hmode) | hfan) | ⟨hv, rfl⟩) | ⟨hh, rfl⟩ := h
  · exact .inr (.inr (.inr (.inr ⟨by simpa [BitVec.toNat_eq] using hr, rfl⟩)))
  · exact .inl (workOf_reservedModeRow hmode)
  · exact .inr (.inl (workOf_reservedFanRow hfan))
  · exact .inr (.inr (.inl ⟨by simpa using hv, rfl⟩))
  · exact .inr (.inr (.inr (.inl ⟨by simp [hh], rfl⟩)))

/-- Every reserved row of a word takes InvalidCommand with the cause of the word: the row's own bit is among those of
the word (R144, R145). -/
theorem workOf_of_mem_reservedRows (h : i ∈ reservedRows w) : workOf i = .invalid (causeOf w) := by
  obtain ⟨hmode, hfan, hvswing, hhswing, hreserved⟩ := causeReports_causeOf w
  obtain ⟨hq, hi⟩ | ⟨hq, hi⟩ | ⟨hq, hi⟩ | ⟨hq, hi⟩ | ⟨hq, hi⟩ := workOf_reservedRow_cases h
  · exact hi.trans (congrArg _ (or_twoPow_of_getLsbD (hmode.2 hq)))
  · exact hi.trans (congrArg _ (or_twoPow_of_getLsbD (hfan.2 hq)))
  · exact hi.trans (congrArg _ (or_twoPow_of_getLsbD (hvswing.2 hq)))
  · exact hi.trans (congrArg _ (or_twoPow_of_getLsbD (hhswing.2 hq)))
  · exact hi.trans (congrArg _ (or_twoPow_of_getLsbD (hreserved.2 hq)))

/-- A three-bit selector that is neither of the two reserved ones is in range. -/
theorem selector_le_five {sel : BitVec 3} (h6 : sel.toNat ≠ 6) (h7 : sel.toNat ≠ 7) : sel.toNat ≤ 5 := by
  have hsel := sel.isLt
  omega

theorem reservedModeRows_eq_nil_iff : reservedModeRows w = [] ↔ (fieldM w).toNat ≤ 5 := by
  unfold reservedModeRows
  split
  · simp [*]
  · simp [*]
  · next h6 h7 => exact iff_of_true rfl (selector_le_five h6 h7)

theorem reservedFanRows_eq_nil_iff : reservedFanRows w = [] ↔ (fieldF w).toNat ≤ 5 := by
  unfold reservedFanRows
  split
  · simp [*]
  · simp [*]
  · next h6 h7 => exact iff_of_true rfl (selector_le_five h6 h7)

/-- A word has a reserved row exactly when it is illegal (R51). -/
theorem reservedRows_eq_nil_iff : reservedRows w = [] ↔ Legal w := by
  have hv := (fieldV w).isLt
  have hh := (fieldH w).isLt
  simp only [reservedRows, List.append_eq_nil_iff, reservedModeRows_eq_nil_iff, reservedFanRows_eq_nil_iff,
    ite_eq_right_iff, List.cons_ne_nil, BitVec.toNat_eq, legal_iff_fields, BitVec.toNat_ofNat, imp_false, ne_eq]
  omega

/-- The decoder answers a reserved row of an illegal word. -/
theorem decodeWord_mem_reservedRows (h : ¬Legal w) : decodeWord w ∈ reservedRows w := by
  rw [← reservedRows_eq_nil_iff] at h
  unfold decodeWord
  split
  · contradiction
  · simp [*]

/-- Outside FAULT the ENCODE of an illegal word takes InvalidCommand with the cause of the word (R145). -/
theorem exec_decodeWord_of_not_legal {s : State} (hw : ¬Legal w) (hs : s.status ≠ .fault) :
    exec (decodeWord w) s = .next (takeInvalidCommand (causeOf w) s) := by
  rw [exec_eq_run, workOf_of_mem_reservedRows (decodeWord_mem_reservedRows hw)]
  exact rejectCommand_ready (causeOf w) hs

end Reserved

/-- Settles O3: the decoder refuses the words that are not legal, the row it answers for them takes InvalidCommand, and
a legal word is a free choice of its fields. -/
theorem illegalCommandWords : Obligations.IllegalCommandWords := by
  unfold Obligations.IllegalCommandWords
  refine ⟨fun w => ?_, fun w s hs herror => ?_, ?_⟩
  · have hm : numM w < 8 := Nat.mod_lt _ (by decide)
    have hf : numF w < 8 := Nat.mod_lt _ (by decide)
    rw [decodeCmdw_error_iff_not_legal, not_legal_iff]
    omega
  · have hw := decodeCmdw_error_iff_not_legal.1 herror
    exact ⟨causeOf w, exec_decodeWord_of_not_legal hw hs, decodeCmdw_of_not_legal hw⟩
  · rw [Nat.card_congr (Equiv.subtypeEquivRight fun _ => decodeCmdw_ok_iff_legal), card_legal]

end Sys2Proof.Machine
end

section
/-!
PROOFS. The ParameterMapper (`40_parameter_mapper.md`): the temperature code in closed form (R71), each lookup as an
entry of the code table (R83), the payload as the claims' frame (R78), its complements and the count of its one-bits
(R79, R80).
-/

namespace Sys2Proof.Machine

open Sys2Proof.Claims Sys2Proof.Safety

section Temperature
variable (t : Int)

/-- The mask of the temperature code clears the low half of a byte (R71). -/
theorem and_tempMask_toNat (x : Byte) : (x &&& fixedParams.tempMask).toNat = x.toNat / 16 * 16 := by
  have hmask : x &&& fixedParams.tempMask = x >>> 4 <<< 4 := by
    apply BitVec.eq_of_getLsbD_eq
    intro i hi
    interval_cases i <;> simp
  have hx := x.isLt
  rw [hmask, BitVec.toNat_shiftLeft, BitVec.toNat_ushiftRight, Nat.shiftLeft_eq, Nat.shiftRight_eq_div_pow]
  omega

/-- The code of the effective temperature as a number (R71). -/
theorem pmTemp_toNat : ((pmTemp t).toNat : Int) = 16 * (32 - effectiveTemp t) := by
  have hu := effectiveTemp_bounds t
  rw [pmTemp, and_tempMask_toNat, BitVec.toNat_ofInt, fixed_tBase]
  omega

/-- The claims' closed form takes the effective temperature too (R71). -/
theorem tempCode_eq : tempCode t = BitVec.ofInt 8 (16 * (32 - effectiveTemp t)) := by
  by_cases h : 17 < t ∧ t < 31
  · rw [effectiveTemp_inRange h]
    exact if_pos (by omega)
  · rw [effectiveTemp_fallback h]
    exact if_neg (by omega)

/-- The printed formula is its closed form (R71). -/
theorem pmTemp_eq_tempCode : pmTemp t = tempCode t := by
  have hu := effectiveTemp_bounds t
  have hcode := pmTemp_toNat t
  apply BitVec.eq_of_toNat_eq
  rw [tempCode_eq, BitVec.toNat_ofInt]
  omega

/-- The temperature code leaves bits 3:0 to the codes of mode and power (R71, R75). -/
theorem pmTemp_low_bits : pmTemp t &&& 0x0F#8 = 0#8 := by
  rw [pmTemp, BitVec.and_assoc]
  exact BitVec.and_zero

/-- The temperature code is 20 to E0 (R71). -/
theorem pmTemp_bounds : 0x20 ≤ (pmTemp t).toNat ∧ (pmTemp t).toNat ≤ 0xE0 := by
  have hu := effectiveTemp_bounds t
  have hcode := pmTemp_toNat t
  omega

/-- A byte out of the range of temperature codes is none. -/
theorem pmTemp_ne {x : Byte} (hx : x.toNat < 0x20 ∨ 0xE0 < x.toNat) : pmTemp t ≠ x := by
  rintro rfl
  have hrange := pmTemp_bounds t
  omega

end Temperature

/-- Settles O37: the code is 16 (32 - u) with u in 18 to 30, and the mask leaves bits 7:4. -/
theorem temperatureCodeClosedForm : Obligations.TemperatureCodeClosedForm := by
  unfold Obligations.TemperatureCodeClosedForm
  exact fun t => ⟨rfl, pmTemp_eq_tempCode t, pmTemp_low_bits t, pmTemp_ne t (by decide), pmTemp_ne t (by decide),
    pmTemp_ne t (by decide)⟩

section Payload
variable (k : CodeTable) (c : CommandState) (b5 b7 b9 : Byte)

/-- A byte and its complement add up to 255 (R76). -/
theorem toNat_add_pmChk (x : Byte) : x.toNat + (pmChk x).toNat = 255 := by
  have hx := x.isLt
  rw [pmChk_eq_not, BitVec.toNat_not]
  omega

/-- Every layout over three data bytes has the shape of a frame (R77, R79). -/
theorem payloadLayout_frameShape : FrameShape (payloadLayout b5 b7 b9) := ⟨rfl, rfl, rfl, rfl⟩

/-- The layout is the claims' frame (R54). -/
theorem payloadLayout_toList_eq_frame : (payloadLayout b5 b7 b9).toList = frame b5 b7 b9 := by
  rw [payloadLayout_toList, pmChk_eq_not, pmChk_eq_not, pmChk_eq_not, frame]

/-- The payload of a command is the frame of the codes of its values (R73, R74, R75, R78). -/
theorem pmEncode_toList_eq_frame : (pmEncode k c).toList =
    frame (byte5 (codeHswing k c.hswing) (codeVswing k c.vswing) (codeClean k c.clean))
      (byte7 (codeFan k c.fan) (codeVswing k c.vswing))
      (byte9 (codeMode k c.mode) (codePower k c.power) (tempCode c.targetTemperature)) := by
  rw [pmEncode, payloadLayout_toList_eq_frame, ← pmTemp_eq_tempCode]
  rfl

end Payload

/-- Settles O38: the payload is a layout over three data bytes. -/
theorem checksumsAndFixedHeader : Obligations.ChecksumsAndFixedHeader := by
  unfold Obligations.ChecksumsAndFixedHeader
  exact fun k c => ⟨payloadLayout_frameShape _ _ _, toNat_add_pmChk (pmB5 k c), toNat_add_pmChk (pmB7 k c),
    toNat_add_pmChk (pmB9 k c)⟩

section Ones

/-- Each bit is 1 in a byte or in its complement (R80). -/
theorem ones_add_ones_pmChk (b : Byte) : ones b + ones (pmChk b) = 8 := by
  have hnot : (List.range 8).filter (fun i => (pmChk b).getLsbD i) =
      (List.range 8).filter (fun i => !b.getLsbD i) := by
    refine List.filter_congr fun i hi => ?_
    rw [pmChk_eq_not, BitVec.getLsbD_not, decide_eq_true (List.mem_range.1 hi), Bool.true_and]
  have hsplit := List.length_eq_length_filter_add (l := List.range 8) fun i => b.getLsbD i
  rw [ones, ones, hnot, ← hsplit, List.length_range]

/-- A byte with its complement adds 8 one-bits (R80). -/
theorem onesAll_cons_pmChk (b : Byte) (bs : List Byte) : onesAll (b :: pmChk b :: bs) = 8 + onesAll bs := by
  have hpair := ones_add_ones_pmChk b
  simp only [onesAll, List.map_cons, List.sum_cons]
  omega

theorem onesAll_append (bs bs' : List Byte) : onesAll (bs ++ bs') = onesAll bs + onesAll bs' := by
  rw [onesAll, List.map_append, List.sum_append]
  rfl

variable (b5 b7 b9 : Byte)

theorem onesAll_header : onesAll ((payloadLayout b5 b7 b9).toList.take 5) = 20 := by
  rw [(payloadLayout_frameShape b5 b7 b9).1]
  decide

theorem onesAll_data : onesAll ((payloadLayout b5 b7 b9).toList.drop 5) = 24 := by
  rw [payloadLayout_toList]
  simp only [List.drop_succ_cons, List.drop_zero, onesAll_cons_pmChk]
  rfl

theorem onesAll_payloadLayout : onesAll (payloadLayout b5 b7 b9).toList = 44 := by
  rw [← List.take_append_drop 5 (payloadLayout b5 b7 b9).toList, onesAll_append, onesAll_header, onesAll_data]

end Ones

/-- Settles O39: 20 one-bits in the fixed header and 8 in each data byte with its complement; the layout reads nothing
but the data bytes. -/
theorem payloadHasFortyFourOnes : Obligations.PayloadHasFortyFourOnes := by
  unfold Obligations.PayloadHasFortyFourOnes
  intro k c
  refine ⟨onesAll_header _ _ _, onesAll_data _ _ _, onesAll_payloadLayout _ _ _, ?_, fun d h5 h7 h9 => ?_⟩
  · rw [pmEncode, onesAll_payloadLayout, Vector.length_toList, fixed_payloadLen]
  · have h5' : pmB5 k c = pmB5 k d := h5
    have h7' : pmB7 k c = pmB7 k d := h7
    have h9' : pmB9 k c = pmB9 k d := h9
    rw [pmEncode, h5', h7', h9', pmEncode]

section Lookup
variable (k : CodeTable)

/-! Each lookup is the entry at the place of its value (R83). -/

theorem codePower_at_place (x : Power) :
    [k.powerOff, k.powerOn][powers.idxOf x]? = some (codePower k x) := by cases x <;> rfl

theorem codeMode_at_place (x : Mode) :
    [k.modeAuto, k.modeCool, k.modeDry, k.modeHeat, k.modeFanOnly, k.modeMaintenance][modes.idxOf x]? =
      some (codeMode k x) := by cases x <;> rfl

theorem codeFan_at_place (x : Fan) :
    [k.fanAuto, k.fanLow, k.fanMid, k.fanHigh, k.fanHiPower, k.fanEcono][fans.idxOf x]? =
      some (codeFan k x) := by cases x <;> rfl

theorem codeVswing_at_place (x : VSwing) :
    [k.vswingSwing, k.vswingUp, k.vswingMidUp, k.vswingMiddle, k.vswingMidDown, k.vswingDown,
      k.vswingStop][vswings.idxOf x]? = some (codeVswing k x) := by cases x <;> rfl

theorem codeClean_at_place (x : Clean) :
    [k.cleanOn, k.cleanOff][cleans.idxOf x]? = some (codeClean k x) := by cases x <;> rfl

end Lookup

/-- Settles O51: the lookups are entries of the table, and the payload is the frame of their codes. -/
theorem payloadOfEveryCommand : Obligations.PayloadOfEveryCommand := by
  unfold Obligations.PayloadOfEveryCommand
  exact fun k c => ⟨codePower k c.power, codeMode k c.mode, codeFan k c.fan, codeVswing k c.vswing,
    codeClean k c.clean, codePower_at_place k _, rfl, codeMode_at_place k _, rfl, codeFan_at_place k _, rfl,
    codeVswing_at_place k _, rfl, codeClean_at_place k _, rfl, rfl, pmEncode_toList_eq_frame k c,
    Vector.length_toList⟩

section Completion
variable {s : State}

/-- What a transaction on a command commits is the result of its three data bytes (R126). -/
theorem result_commit (c : CommandState) :
    Result s (commit (payloadOf s c) (envelopeOf s c) s) (b5Of s c) (b7Of s c) (b9Of s c) :=
  ⟨rfl, rfl, rfl, rfl, payloadOf s c, rfl, pmEncode_toList_eq_frame _ c,
    commit_envLen_toNat _ s (fbEnv_length_le_envMax _ _), fun j => memByte_envelope j (envelopeOf s c)⟩

/-- Every instruction that is a transaction on a command completes outside FAULT with the result of that command
(R126). -/
theorem completesWith_of_workOf_command {i : Instr} {c : CommandState} (hi : workOf i = .command c)
    (hs : s.status ≠ .fault) : CompletesWith i s (b5Of s c) (b7Of s c) (b9Of s c) :=
  ⟨_, by rw [exec_eq_run, hi]; exact transact_ready c hs, result_commit c⟩

end Completion

/-- Settles O15: the three rows are transactions on the whole command. -/
theorem encodeCompletes : Obligations.EncodeCompletes := by
  unfold Obligations.EncodeCompletes
  exact fun s c hs => ⟨completesWith_of_workOf_command rfl hs, completesWith_of_workOf_command rfl hs,
    completesWith_of_workOf_command rfl hs⟩

end Sys2Proof.Machine
end

section
/-!
PROOFS. The PulseEncoder (`41_pulse_encoder.md`): the scaling as the least duration at or above the scaled base, which
gives its order and its thresholds (R91), and the place of each bit's mark and space among the pulses of a byte
(R93, R94).
-/

namespace Sys2Proof.Machine

section Scaling
variable (u : Nat)

/-- The scaled base is the least integer at or above the rational quotient, so any duration compares with it by cross
multiplication (R91). -/
theorem peScale_le_iff (d : Nat) : peScale u ≤ d ↔ u * 269 ≤ 8192 * d := by
  rw [peScale_eq]
  omega

theorem lt_peScale_iff (d : Nat) : d < peScale u ↔ 8192 * d < u * 269 := by
  rw [← not_le, peScale_le_iff, not_le]

/-- The scaled base is at or above the quotient. -/
theorem le_mul_peScale : u * 269 ≤ 8192 * peScale u := (peScale_le_iff u _).1 le_rfl

/-- The scaled base is above the quotient by less than one. -/
theorem mul_peScale_lt : 8192 * peScale u < u * 269 + 8192 := by
  rw [peScale_eq]
  omega

/-- The integer form is the rational ceiling (R91). -/
theorem peScale_eq_ceil : (peScale u : Int) = ⌈(u * 269 : ℚ) / 8192⌉ := by
  have hceil := Rat.ceil_natCast_div_natCast (u * 269) 8192
  push_cast at hceil
  rw [hceil, peScale_eq]
  omega

/-- An exact quotient is not raised (R91, D20). -/
theorem mul_peScale_of_dvd {u : Nat} (h : 8192 ∣ u) : 8192 * peScale u = u * 269 := by
  obtain ⟨q, rfl⟩ := h
  have hlow := le_mul_peScale (8192 * q)
  have hhigh := mul_peScale_lt (8192 * q)
  omega

/-- The multiplier is odd, so 8192 divides the product only where it divides the base. -/
theorem dvd_of_mul_peScale {u : Nat} (h : u * 269 = 8192 * peScale u) : 8192 ∣ u :=
  Nat.Coprime.dvd_of_dvd_mul_right (by decide : Nat.Coprime 8192 269) ⟨_, h⟩

/-- A quotient that is not exact is raised (R91, R96). -/
theorem lt_mul_peScale_of_not_dvd {u : Nat} (h : ¬8192 ∣ u) : u * 269 < 8192 * peScale u :=
  (le_mul_peScale u).lt_of_ne fun hexact => h (dvd_of_mul_peScale hexact)

/-- A longer base is not scaled to fewer units. -/
theorem peScale_mono {u v : Nat} (h : u ≤ v) : peScale u ≤ peScale v := by
  rw [peScale_le_iff]
  exact (Nat.mul_le_mul_right 269 h).trans (le_mul_peScale v)

/-- The first base whose duration needs two bytes (R91). -/
theorem two_byte_peScale_iff : 256 ≤ peScale u ↔ 7766 ≤ u :=
  (lt_peScale_iff u 255).trans (by omega)

/-- The first base whose duration does not fit two bytes (R91). -/
theorem overflowing_peScale_iff : 65535 < peScale u ↔ 1995773 ≤ u :=
  (lt_peScale_iff u 65535).trans (by omega)

end Scaling

/-- Settles O40: the scaled base is the least duration at or above the quotient. -/
theorem scaleIsTheExactCeiling : Obligations.ScaleIsTheExactCeiling := by
  unfold Obligations.ScaleIsTheExactCeiling
  exact ⟨fun u => ⟨peScale_eq_ceil u, peScale_eq u⟩, fun _ => mul_peScale_of_dvd,
    fun u h => ⟨lt_mul_peScale_of_not_dvd h, mul_peScale_lt u⟩, fun _ _ => peScale_mono, two_byte_peScale_iff,
    overflowing_peScale_iff⟩

section Pairs
variable {α β : Type} (f g : α → β)

/-- The first member of the `k`th pair of a list of pairs in a row. -/
theorem flatMap_pair_even (l : List α) (k : Nat) : (l.flatMap fun a => [f a, g a])[2 * k]? = l[k]?.map f := by
  induction l generalizing k with
  | nil => rfl
  | cons a l ih =>
    cases k with
    | zero => rfl
    | succ k => exact ih k

/-- The second member of the `k`th pair of a list of pairs in a row. -/
theorem flatMap_pair_odd (l : List α) (k : Nat) : (l.flatMap fun a => [f a, g a])[2 * k + 1]? = l[k]?.map g := by
  induction l generalizing k with
  | nil => rfl
  | cons a l ih =>
    cases k with
    | zero => rfl
    | succ k => exact ih k

end Pairs

section BytePulses
variable (p : Params) (b : Byte) (i : Fin fixedParams.bitsPerByte)

/-- Bit `i` leaves in place `i` (R33). -/
theorem bitOrder_getElem? : bitOrder[i.val]? = some i := by
  rw [bitOrder, List.getElem?_eq_getElem (by simp), List.getElem_finRange]
  rfl

/-- The mark of bit `i` (R94). -/
theorem peByte_mark : (peByte p b)[2 * i.val]? = some (peBit p b i).1 := by
  rw [peByte, flatMap_pair_even, bitOrder_getElem?, Option.map_some]

/-- The space of bit `i` (R94). -/
theorem peByte_space : (peByte p b)[2 * i.val + 1]? = some (peBit p b i).2 := by
  rw [peByte, flatMap_pair_odd, bitOrder_getElem?, Option.map_some]

/-- The pair of bit `i`, with the bit taken arithmetically (R93). -/
theorem peBit_eq : peBit p b i = (peScale p.tBitMark,
    if b.toNat / 2 ^ i.val % 2 = 1 then peScale p.tOneSpace else peScale p.tZeroSpace) := by
  simp only [peBit, BitVec.getLsbD, Nat.testBit_eq_decide_div_mod_eq, decide_eq_true_eq, dBitMark, dOneSpace,
    dZeroSpace]

end BytePulses

/-- Settles O42: the pulses are the bits' pairs in a row, bit `i` in place `i`. -/
theorem bytePulsesAreLeastSignificantBitFirst : Obligations.BytePulsesAreLeastSignificantBitFirst := by
  unfold Obligations.BytePulsesAreLeastSignificantBitFirst
  intro p b
  refine ⟨peByte_length p b, fun i => ⟨peBit_eq p b i, ?_, ?_⟩⟩
  · exact (peByte_mark p b i).trans (by rw [peBit_eq])
  · exact (peByte_space p b i).trans (by rw [peBit_eq])

end Sys2Proof.Machine
end

section
/-!
PROOFS. The FrameBuilder (`42_frame_builder.md`): the item of a duration (R107); the train as the header pair and a
pulse pair for each bit of the payload in a row, which gives the position of every value (R106, R116), the sizes of
bodies and envelopes (R111), and which payloads an envelope tells apart (R110).
-/

namespace Sys2Proof.Machine

open Sys2Proof.Claims

section Item
variable {v : Nat}

/-- The low byte of a duration is its remainder (R107). -/
theorem ofNat_mod_byte (n : Nat) : BitVec.ofNat 8 (n % 256) = BitVec.ofNat 8 n := by
  apply BitVec.eq_of_toNat_eq
  rw [BitVec.toNat_ofNat, BitVec.toNat_ofNat]
  exact Nat.mod_mod _ _

/-- A long item, with its bytes taken arithmetically (R107). -/
theorem fbDur_long_eq (h : ¬v < 256) : fbDur v = [BitVec.ofNat 8 (v % 256), BitVec.ofNat 8 (v / 256)] := by
  rw [fbDur_long h, ofNat_mod_byte, Nat.shiftRight_eq_div_pow]

/-- An item holds all of a duration that fits two bytes (R107, R113). -/
theorem littleEndian_fbDur (h : v ≤ 65535) : littleEndian (fbDur v) = v := by
  by_cases hv : v < 256
  · rw [fbDur_short hv]
    simp only [littleEndian, BitVec.toNat_ofNat]
    omega
  · rw [fbDur_long_eq hv]
    simp only [littleEndian, BitVec.toNat_ofNat]
    omega

end Item

/-- Settles O44: below 256 the item is the duration's own byte, else its remainder and its quotient by 256. -/
theorem durationItem : Obligations.DurationItem := by
  unfold Obligations.DurationItem
  refine fun v hv => ⟨?_, (fbDur_length v).symm, rfl, littleEndian_fbDur hv⟩
  split
  · exact fbDur_short ‹_›
  · exact fbDur_long_eq ‹_›

section Uniform
variable {α β : Type} {f : α → List β}

/-- With pieces of one length `n`, piece `k` stands at `n * k`. -/
theorem flatMap_getElem?_of_length {n : Nat} (hf : ∀ a, (f a).length = n) (l : List α) (k : Nat) {i : Nat}
    (hi : i < n) : (l.flatMap f)[n * k + i]? = l[k]?.bind fun a => (f a)[i]? := by
  induction l generalizing k with
  | nil => rfl
  | cons a l ih =>
    rw [List.flatMap_cons]
    cases k with
    | zero => rw [Nat.mul_zero, Nat.zero_add, List.getElem?_append_left (by rw [hf]; exact hi)]; rfl
    | succ k =>
      rw [List.getElem?_append_right (by rw [hf]; lia), hf, List.getElem?_cons_succ, ← ih]
      congr 1
      lia

/-- With pieces of one length, sequences of one length are told apart when the pieces are. -/
theorem flatMap_injOn_length (hlen : ∀ a b, (f a).length = (f b).length) (hf : f.Injective) {l l' : List α}
    (hl : l.length = l'.length) (h : l.flatMap f = l'.flatMap f) : l = l' := by
  induction l generalizing l' with
  | nil => exact (List.length_eq_zero_iff.1 hl.symm).symm
  | cons a l ih =>
    cases l' with
    | nil => cases hl
    | cons a' l' =>
      obtain ⟨hhead, htail⟩ := List.append_inj h (hlen a a')
      rw [hf hhead, ih (Nat.succ.inj hl) htail]

end Uniform

/-- The bits of a byte in the order in which they leave (R33). -/
def bitsOf (b : Byte) : List Bool := bitOrder.map fun i => b.getLsbD i.val

/-- The 88 bits of a payload in the order in which they leave (R33, R34). -/
def payloadBits (f : PayloadFrame) : List Bool := f.toList.flatMap bitsOf

/-- The space of a bit of that value (R93). -/
def bitSpace (p : Params) (x : Bool) : Nat := if x then dOneSpace p else dZeroSpace p

/-- The two pulses of a bit of that value (R93). -/
def bitPulses (p : Params) (x : Bool) : List Nat := [dBitMark p, bitSpace p x]

section Bits
variable (p : Params) (b : Byte) (f : PayloadFrame)

theorem bitsOf_length : (bitsOf b).length = 8 := rfl

theorem bitsOf_getElem? {i : Nat} (hi : i < 8) : (bitsOf b)[i]? = some (b.getLsbD i) := by
  rw [bitsOf, List.getElem?_map, bitOrder_getElem? ⟨i, hi⟩, Option.map_some]

theorem bitsOf_injective : bitsOf.Injective := by
  intro a b h
  refine BitVec.eq_of_getLsbD_eq fun i hi => ?_
  rw [← Option.some_inj, ← bitsOf_getElem? a hi, h, bitsOf_getElem? b hi]

/-- The one-bits counted by the claims are the true bits. -/
theorem bitsOf_count_true : (bitsOf b).count true = ones b := by
  have hbits : bitsOf b = (List.range 8).map b.getLsbD := rfl
  have htrue : (· == true) ∘ b.getLsbD = b.getLsbD := funext fun _ => beq_true _
  rw [hbits, List.count, List.countP_map, htrue, List.countP_eq_length_filter, ones]

theorem payloadBits_length : (payloadBits f).length = 88 := by
  simp [payloadBits, bitsOf_length]

theorem payloadBits_count_true : (payloadBits f).count true = onesAll f.toList := by
  have hones : List.count true ∘ bitsOf = ones := funext bitsOf_count_true
  rw [payloadBits, List.count_flatMap, hones, onesAll]

theorem payloadBits_count_false : (payloadBits f).count false = 88 - onesAll f.toList := by
  have hsum := List.count_true_add_count_false (payloadBits f)
  rw [payloadBits_length, payloadBits_count_true] at hsum
  omega

/-- Bit `i` of payload byte `k` leaves in place `8k + i` (R33, R34). -/
theorem payloadBits_getElem? {k i : Nat} (hi : i < 8) :
    (payloadBits f)[8 * k + i]? = f.toList[k]?.map fun b => b.getLsbD i := by
  rw [payloadBits, flatMap_getElem?_of_length bitsOf_length _ _ hi]
  simp only [bitsOf_getElem? _ hi]
  exact Option.map_eq_bind.symm

/-- A payload is told by its bits. -/
theorem payloadBits_injective : payloadBits.Injective := fun f g h =>
  Vector.toList_inj.1 (flatMap_injOn_length (fun _ _ => rfl) bitsOf_injective
    (by rw [Vector.length_toList, Vector.length_toList]) h)

/-- The pulses of a byte are those of its bits (R94). -/
theorem peByte_eq_flatMap : peByte p b = (bitsOf b).flatMap (bitPulses p) := by
  rw [bitsOf, List.flatMap_map]
  rfl

/-- A train is the header pair and the pulses of the payload's bits (R106). -/
theorem fbTrain_eq : fbTrain p f = [dHdrMark p, dHdrSpace p] ++ (payloadBits f).flatMap (bitPulses p) := by
  rw [payloadBits, List.flatMap_assoc, fbTrain, funext (peByte_eq_flatMap p)]
  rfl

/-- The bits' pulses stand behind the header pair (R116). -/
theorem fbTrain_getElem? (j : Nat) : (fbTrain p f)[2 + j]? = ((payloadBits f).flatMap (bitPulses p))[j]? := by
  rw [fbTrain_eq, Nat.add_comm]
  rfl

/-- The mark of bit `n` of the payload (R116). -/
theorem fbTrain_mark (n : Nat) : (fbTrain p f)[2 + 2 * n]? = (payloadBits f)[n]?.map fun _ => dBitMark p := by
  rw [fbTrain_getElem?, ← flatMap_pair_even _ (bitSpace p)]
  rfl

/-- The space of bit `n` of the payload (R116). -/
theorem fbTrain_space (n : Nat) : (fbTrain p f)[3 + 2 * n]? = (payloadBits f)[n]?.map (bitSpace p) := by
  have hpos : 3 + 2 * n = 2 + (2 * n + 1) := by omega
  rw [hpos, fbTrain_getElem?, ← flatMap_pair_odd fun _ => dBitMark p]
  rfl

/-- The space of bit `i` of a byte, with the bit taken arithmetically (R93). -/
theorem bitSpace_getLsbD (i : Nat) : bitSpace p (b.getLsbD i) =
    if b.toNat / 2 ^ i % 2 = 1 then peScale p.tOneSpace else peScale p.tZeroSpace := by
  simp only [bitSpace, BitVec.getLsbD, Nat.testBit_eq_decide_div_mod_eq, decide_eq_true_eq, dOneSpace, dZeroSpace]

/-- With one-byte items the envelope holds the duration at position `q` of the train at index `4 + q` (R116). -/
theorem fbEnv_short_getElem? (h : ∀ v ∈ fbTrain p f, v < 256) {q : Nat} (hq : q < 178) :
    (fbEnv p f)[4 + q]? = (fbTrain p f)[q]?.map (BitVec.ofNat 8) := by
  have hbody := fbBody_short h
  rw [fbEnv, envelopeLayout_body _ (by rwa [hbody, List.length_map, fbTrain_length]), hbody, List.getElem?_map]

end Bits

/-- Settles O43: bit `i` of byte `k` is bit `8k + i` of the payload, whose pulses are the pair at `2 (8k + i)` behind
the header. -/
theorem trainPositions : Obligations.TrainPositions := by
  unfold Obligations.TrainPositions
  refine fun p f => ⟨fbTrain_length p f, rfl, rfl, fun k i hk hi => ?_, fun h q => fbEnv_short_getElem? p f h⟩
  have hbyte : f.toList[k]? = some f[k] := by simp [hk]
  have hbit := payloadBits_getElem? f (k := k) hi
  rw [hbyte, Option.map_some] at hbit
  have hmark_pos : 2 + 2 * (8 * k + i) = 2 + 16 * k + 2 * i := by ring
  have hspace_pos : 3 + 2 * (8 * k + i) = 3 + 16 * k + 2 * i := by ring
  have hmark := fbTrain_mark p f (8 * k + i)
  have hspace := fbTrain_space p f (8 * k + i)
  rw [hbit, Option.map_some] at hmark hspace
  refine ⟨f[k], hbyte, ?_, ?_⟩
  · rw [← hmark_pos, hmark]
    rfl
  · rw [← hspace_pos, hspace, bitSpace_getLsbD]

section Sizes
variable (p : Params) (f : PayloadFrame)

/-- The pulses of a row of bits take an item of the mark for each, and of its own space for each one-bit and each
zero-bit (R111). -/
theorem fbBody_bitPulses_length (l : List Bool) : (fbBody (l.flatMap (bitPulses p))).length =
    l.length * fbSize (dBitMark p) + l.count true * fbSize (dOneSpace p) +
      l.count false * fbSize (dZeroSpace p) := by
  induction l with
  | nil => simp [fbBody]
  | cons x l ih =>
    rw [fbBody_length] at ih ⊢
    rw [List.flatMap_cons, List.map_append, List.sum_append, ih]
    cases x <;> simp [bitPulses, bitSpace] <;> ring

theorem fbBody_append (d d' : List Nat) : fbBody (d ++ d') = fbBody d ++ fbBody d' := List.flatMap_append

/-- A body is the items of the header and those of the pulses of the payload's bits (R108). -/
theorem fbBody_fbTrain : fbBody (fbTrain p f) =
    fbBody [dHdrMark p, dHdrSpace p] ++ fbBody ((payloadBits f).flatMap (bitPulses p)) := by
  rw [fbTrain_eq, fbBody_append]

/-- The size of a body, by the number of one-bits of its payload (R111). -/
theorem fbBody_fbTrain_length : (fbBody (fbTrain p f)).length =
    fbSize (dHdrMark p) + fbSize (dHdrSpace p) + 88 * fbSize (dBitMark p) +
      onesAll f.toList * fbSize (dOneSpace p) + (88 - onesAll f.toList) * fbSize (dZeroSpace p) := by
  rw [fbBody_fbTrain, List.length_append, fbBody_bitPulses_length, payloadBits_length, payloadBits_count_true,
    payloadBits_count_false, fbBody_length]
  simp only [List.map_cons, List.map_nil, List.sum_cons, List.sum_nil]
  ring

/-- A payload has at most 88 one-bits. -/
theorem onesAll_le : onesAll f.toList ≤ 88 := by
  rw [← payloadBits_count_true, ← payloadBits_length f]
  exact List.count_le_length

/-- An item is at least one byte, so a body has at least one byte for each duration. -/
theorem length_le_fbBody (d : List Nat) : d.length ≤ (fbBody d).length := by
  induction d with
  | nil => exact Nat.le_refl 0
  | cons v d ih =>
    have hv := (fbSize_bounds v).1
    simp only [fbBody_length, List.map_cons, List.sum_cons, List.length_cons] at ih ⊢
    omega

theorem fbEnv_length : (fbEnv p f).length = (fbBody (fbTrain p f)).length + 6 := envelopeLayout_length _

/-- Payloads with as many one-bits have envelopes of one size (R111). -/
theorem fbEnv_length_congr {f g : PayloadFrame} (h : onesAll f.toList = onesAll g.toList) :
    (fbEnv p f).length = (fbEnv p g).length := by
  rw [fbEnv_length, fbEnv_length, fbBody_fbTrain_length, fbBody_fbTrain_length, h]

/-- In this hardware every duration of a train is one byte (R92, R111). -/
theorem lt_of_mem_fbTrain (p : Config) {f : PayloadFrame} {v : Nat} (h : v ∈ fbTrain p.val f) : v < 256 := by
  obtain ⟨-, hhm, hhs, hbm, hone, hzero⟩ := p.property
  rcases mem_fbTrain p.val h with rfl | rfl | rfl | rfl | rfl
  · exact hhm.trans_lt (by decide)
  · exact hhs.trans_lt (by decide)
  · exact hbm
  · exact hone
  · exact hzero

/-- In this hardware a body has one byte for each duration (R111). -/
theorem fbBody_fbTrain_length_config (p : Config) : (fbBody (fbTrain p.val f)).length = 178 := by
  rw [fbBody_short fun v => lt_of_mem_fbTrain p, List.length_map, fbTrain_length]

end Sizes

/-- Settles O45: the items of a body are counted by the bits of the payload; a command's payload has 44 one-bits; and
in this hardware every item is one byte. -/
theorem bodyAndEnvelopeSizes : Obligations.BodyAndEnvelopeSizes := by
  unfold Obligations.BodyAndEnvelopeSizes
  refine ⟨fun p f => ?_, fun p c d => ?_, fun p f => ?_⟩
  · have hlow := length_le_fbBody (fbTrain p f)
    have hhigh := fbBody_length_le (fbTrain p f)
    rw [fbTrain_length] at hlow hhigh
    exact ⟨fbBody_fbTrain_length p f, onesAll_le f, hlow, hhigh, rfl, fbEnv_length p f, fbTrain_length p f⟩
  · exact fbEnv_length_congr p ((onesAll_payloadLayout _ _ _).trans (onesAll_payloadLayout _ _ _).symm)
  · have hbody := fbBody_fbTrain_length_config f p
    exact ⟨fun v => lt_of_mem_fbTrain p, hbody, by rw [fbEnv_length, hbody]⟩

section Apart
variable {p : Params}

/-- The layout with the length field taken arithmetically (R110, R109). -/
theorem envelopeLayout_eq (y : List Byte) : envelopeLayout y =
    [0x26#8, 0x00#8, BitVec.ofNat 8 ((y.length + 4) % 256), BitVec.ofNat 8 ((y.length + 4) / 256)] ++ y ++
      [0x0D#8, 0x05#8] := by
  rw [ofNat_mod_byte, ← Nat.shiftRight_eq_div_pow _ 8]
  rfl

/-- An envelope tells its body. -/
theorem envelopeLayout_injective : envelopeLayout.Injective := by
  intro y y' h
  exact (List.append_inj (List.append_cancel_right h) rfl).2

/-- Short durations are told by their items. -/
theorem eq_of_fbDur_eq {u v : Nat} (hu : u < 256) (hv : v < 256) (h : fbDur u = fbDur v) : u = v := by
  rw [← littleEndian_fbDur (v := u) (by omega), h, littleEndian_fbDur (by omega)]

/-- Items of the pulses of a row of bits, bit by bit. -/
theorem fbBody_bitPulses (l : List Bool) :
    fbBody (l.flatMap (bitPulses p)) = l.flatMap fun x => fbBody (bitPulses p x) := List.flatMap_assoc

/-- With two short spaces the items of a bit have one size. -/
theorem fbBody_bitPulses_length_eq (hone : dOneSpace p < 256) (hzero : dZeroSpace p < 256) (x : Bool) :
    (fbBody (bitPulses p x)).length = fbSize (dBitMark p) + 1 := by
  cases x <;> simp [fbBody_length, bitPulses, bitSpace, fbSize_short, hone, hzero]

/-- With two different short spaces the items of a bit tell its value (R110). -/
theorem fbBody_bitPulses_injective (hne : dOneSpace p ≠ dZeroSpace p) (hone : dOneSpace p < 256)
    (hzero : dZeroSpace p < 256) : Function.Injective fun x => fbBody (bitPulses p x) := by
  refine Bool.injective_iff.2 fun h => hne (eq_of_fbDur_eq hone hzero ?_)
  simpa [fbBody, bitPulses, bitSpace] using h.symm

/-- With two different short spaces a body tells its payload (R110, C11). -/
theorem fbBody_fbTrain_injective (hne : dOneSpace p ≠ dZeroSpace p) (hone : dOneSpace p < 256)
    (hzero : dZeroSpace p < 256) : Function.Injective fun f => fbBody (fbTrain p f) := by
  intro f g h
  have hbits : fbBody ((payloadBits f).flatMap (bitPulses p)) = fbBody ((payloadBits g).flatMap (bitPulses p)) := by
    simpa only [fbBody_fbTrain, List.append_cancel_left_eq] using h
  rw [fbBody_bitPulses, fbBody_bitPulses] at hbits
  have hlen x := fbBody_bitPulses_length_eq hone hzero x
  exact payloadBits_injective (flatMap_injOn_length (fun x y => (hlen x).trans (hlen y).symm)
    (fbBody_bitPulses_injective hne hone hzero) (by rw [payloadBits_length, payloadBits_length]) hbits)

/-- With equal spaces all payloads have one train. -/
theorem fbTrain_eq_of_spaces_eq (h : dOneSpace p = dZeroSpace p) (f g : PayloadFrame) : fbTrain p f = fbTrain p g := by
  have hpulses : bitPulses p = fun _ => [dBitMark p, dOneSpace p] := by
    funext x
    cases x
    · rw [h]; rfl
    · rfl
  rw [fbTrain_eq, fbTrain_eq, hpulses, List.flatMap_def, List.flatMap_def, List.map_const', List.map_const',
    payloadBits_length, payloadBits_length]

end Apart

/-- Settles O46: the envelope tells its body, whose items of a bit have one size and, with two different short spaces,
tell the bit; with equal spaces the train does not depend on the bits. -/
theorem envelopeTellsPayloadsApart : Obligations.EnvelopeTellsPayloadsApart := by
  unfold Obligations.EnvelopeTellsPayloadsApart
  refine fun p => ⟨fun f => envelopeLayout_eq _, fun hne hone hzero f g h => ?_, fun heq f g => ?_⟩
  · exact fbBody_fbTrain_injective hne hone hzero (envelopeLayout_injective h)
  · rw [fbEnv, fbEnv, fbTrain_eq_of_spaces_eq heq f g]

end Sys2Proof.Machine
end

section
/-!
PROOFS. RESET (`43_transactions.md` R127): it puts every latch to its reset value (R21), no other instruction has an
effect in FAULT (R132, R146), and in an idle block the latches already hold these values.
-/

namespace Sys2Proof.Machine

open Sys2Proof.Claims Sys2Proof.Safety

section Reset
variable {i : Instr} {s : State}

/-- RESET has no guard: it writes all five latches in every status (R127, R160). -/
@[simp] theorem exec_reset (s : State) : exec .reset s = .next (cleared s) := rfl

/-- RESET is the only row of the table that is no ENCODE (R58). -/
theorem workOf_eq_reset_iff : workOf i = .reset ↔ i = .reset := by
  cases i <;> simp [workOf]

/-- Every operation but RESET is a guarded transaction, which keeps each latch in FAULT (R132). -/
theorem run_fault {k : Work} (hk : k ≠ .reset) (hs : s.status = .fault) : k.run s = .next s := by
  cases k with
  | reset => exact absurd rfl hk
  | command c => exact transact_fault c hs
  | invalid cause => exact rejectCommand_fault cause hs

/-- In FAULT no instruction but RESET changes anything (R146). -/
theorem exec_fault (hi : i ≠ .reset) (hs : s.status = .fault) : exec i s = .next s := by
  rw [exec_eq_run]
  exact run_fault (mt workOf_eq_reset_iff.1 hi) hs

/-- A consistent block that is idle has no cause and no result to withdraw, so RESET finds nothing to change. -/
theorem cleared_eq_self (hinv : LatchInvariant s) (hs : s.status = .idle) : cleared s = s := by
  have hcause : s.cause = 0#5 := by
    by_contra h
    have hfault := hinv.causeOfFault.1 h
    rw [hs] at hfault
    contradiction
  obtain ⟨hpayload, henv, henvLen⟩ := hinv.withdrawn (by rw [hs]; decide)
  rw [cleared, ← hs, ← hcause, ← henvLen, ← hpayload, ← henv]

end Reset

/-- Settles O23: RESET answers the cleared state; in FAULT any other instruction answers the state itself, which is
still in FAULT; and an idle consistent state is its own cleared state. -/
theorem resetClearsEveryLatch : Obligations.ResetClearsEveryLatch := by
  unfold Obligations.ResetClearsEveryLatch
  refine ⟨exec_reset, fun s t i hfault hexec hleft => ?_, fun s hinv hidle => ?_⟩
  · by_contra hi
    rw [exec_fault hi hfault] at hexec
    cases hexec
    exact hleft hfault
  · rw [exec_reset, cleared_eq_self hinv hidle]

end Sys2Proof.Machine
end

section
/-!
PROOFS. The exception InvalidCommand (`60_exceptions.md`): a reserved row adds the cause bit of its own part to the
cause of the word, which reports that part already (R144, R145); and FAULT, where only RESET has an effect, which is
that of power-on (R146).
-/

namespace Sys2Proof.Machine

open Sys2Proof.Claims

section Exceptions
variable {w : Word} {i : Instr} {s : State}

/-- An instruction that adds to the cause of a word a bit that the word reports takes InvalidCommand with exactly the
cause of the word (R144, R145). -/
theorem takesInvalidCommand_of_reported_bit {j : Nat} (hi : workOf i = .invalid (causeOf w ||| BitVec.twoPow 5 j))
    (hj : (causeOf w).getLsbD j = true) (hs : s.status ≠ .fault) : TakesInvalidCommand i s w := by
  have hcause : causeOf w ≠ 0#5 := fun h => by simp [h] at hj
  refine ⟨causeOf w, hcause, causeReports_causeOf w, ?_⟩
  rw [exec_eq_run, hi, or_twoPow_of_getLsbD hj]
  exact rejectCommand_ready (causeOf w) hs

/-- A cleared block is in the power-on state of the same configuration, with the inputs still to come (R21, R146,
R160). -/
theorem cleared_eq_powerOn (s : State) : cleared s = { State.powerOn s.cfg with inputs := s.inputs } := rfl

end Exceptions

/-- Settles O22: the part that a reserved row stands for is one that the cause of the word reports, so the row's own
bit adds nothing to it. -/
theorem reservedRowsTakeInvalidCommand : Obligations.ReservedRowsTakeInvalidCommand := by
  unfold Obligations.ReservedRowsTakeInvalidCommand
  intro s w hs
  obtain ⟨hmode, hfan, hvswing, hhswing, hreserved⟩ := causeReports_causeOf w
  refine ⟨fun hr => ?reserved, fun h6 => ?mode6, fun h7 => ?mode7, fun h6 => ?fan6, fun h7 => ?fan7,
    fun hv => ?vswing7, fun hh => ?hswing1⟩
  case reserved => exact takesInvalidCommand_of_reported_bit rfl (hreserved.2 hr) hs
  case mode6 => exact takesInvalidCommand_of_reported_bit rfl (hmode.2 (by omega)) hs
  case mode7 => exact takesInvalidCommand_of_reported_bit rfl (hmode.2 (by omega)) hs
  case fan6 => exact takesInvalidCommand_of_reported_bit rfl (hfan.2 (by omega)) hs
  case fan7 => exact takesInvalidCommand_of_reported_bit rfl (hfan.2 (by omega)) hs
  case vswing7 => exact takesInvalidCommand_of_reported_bit rfl (hvswing.2 hv) hs
  case hswing1 => exact takesInvalidCommand_of_reported_bit rfl (hhswing.2 hh) hs

/-- Settles O25: in FAULT every instruction but RESET is a guarded transaction that keeps the state, and RESET answers
the cleared state, which is the power-on state with the inputs still to come. -/
theorem faultIsStickyUntilReset : Obligations.FaultIsStickyUntilReset := by
  unfold Obligations.FaultIsStickyUntilReset
  intro s hfault
  refine ⟨fun i hi => exec_fault hi hfault, ?_⟩
  rw [exec_reset, cleared_eq_powerOn]

end Sys2Proof.Machine
end

section
/-!
PROOFS. The readings of a command word in the opcode table (R58): a legal word is rebuilt from its command, the reserved
rows carry the word itself, and every row of a command is well-formed, is written as the word of that command and has
the effect of its ENCODE.
-/

namespace Sys2Proof.Machine

open Sys2Proof.Claims

section Selectors

theorem powerSel_powerAt : ∀ p : BitVec 1, powerSel (powerAt p) = p := by decide
theorem modeSel_modeAt : ∀ m : BitVec 3, m.toNat ≤ 5 → modeSel (modeAt m) = m := by decide
theorem fanSel_fanAt : ∀ f : BitVec 3, f.toNat ≤ 5 → fanSel (fanAt f) = f := by decide
theorem vswingSel_vswingAt : ∀ v : BitVec 3, v.toNat ≤ 6 → vswingSel (vswingAt v) = v := by decide
theorem cleanSel_cleanAt : ∀ c : BitVec 1, cleanSel (cleanAt c) = c := by decide

/-- The temperature that a field names is written back into it (R47, R49). -/
theorem temperatureBits_temperatureAt (t : BitVec 16) : temperatureBits (temperatureAt t) = t := BitVec.ofInt_toInt

end Selectors

section Legal
variable {w : Word}

/-- A legal word is the word of the command that its fields name (R50). -/
theorem encodeCmdw_commandAt (h : Legal w) : encodeCmdw (commandAt w) = w := by
  obtain ⟨hm, hf, hv, hh, hr⟩ := legal_iff_fields.1 h
  have hword := wordOfFields_fields hr
  rw [hh] at hword
  simpa only [encodeCmdw, commandAt, powerSel_powerAt, modeSel_modeAt _ hm, fanSel_fanAt _ hf, vswingSel_vswingAt _ hv,
    hswingSel_eq_zero, cleanSel_cleanAt, temperatureBits_temperatureAt] using hword

/-- A representable command is one whose temperature fits 16 bits (R49). -/
theorem representable_iff {c : CommandState} :
    c.representable = true ↔ -32768 ≤ c.targetTemperature ∧ c.targetTemperature ≤ 32767 := by
  simp [CommandState.representable]

/-- A word can carry every command that a word names (R49). -/
theorem representable_commandAt (w : Word) : (commandAt w).representable = true := by
  have hlow := BitVec.le_toInt (fieldT w)
  have hhigh := BitVec.toInt_lt (x := fieldT w)
  simp only [representable_iff, commandAt, temperatureAt]
  omega

theorem decodeWord_of_legal (h : Legal w) : decodeWord w = .encode (commandAt w) := by
  rw [decodeWord, reservedRows_eq_nil_iff.2 h]

theorem readings_of_legal (h : Legal w) : readings w = commandRows (commandAt w) := by
  rw [readings, reservedRows_eq_nil_iff.2 h]

theorem readings_of_not_legal (h : ¬Legal w) : readings w = reservedRows w := by
  rw [← reservedRows_eq_nil_iff] at h
  unfold readings
  split
  · contradiction
  · simp only [*]

/-- The decoder reads a representable command in the word the encoder gives it (R50). -/
theorem decodeWord_encodeCmdw {c : CommandState} (h : c.representable = true) :
    decodeWord (encodeCmdw c) = .encode c := by
  obtain ⟨hlow, hhigh⟩ := representable_iff.1 h
  rw [decodeWord_of_legal (legal_encodeCmdw c), commandAt_encodeCmdw c hlow hhigh]

/-- The readings of the word of a representable command are the rows of that command (R58). -/
theorem readings_encodeCmdw {c : CommandState} (h : c.representable = true) :
    readings (encodeCmdw c) = commandRows c := by
  obtain ⟨hlow, hhigh⟩ := representable_iff.1 h
  rw [readings_of_legal (legal_encodeCmdw c), commandAt_encodeCmdw c hlow hhigh]

end Legal

section ReservedRows
variable {w : Word} {i : Instr}

/-- A reserved row of a word is well-formed and carries the word (R51). -/
theorem wellFormed_of_mem_reservedRows (h : i ∈ reservedRows w) : i.wellFormed = true ∧ encodeWord i = w := by
  simp only [reservedRows, List.mem_append, List.mem_ite_nil_right, List.mem_singleton] at h
  obtain (((⟨hr, rfl⟩ | hmode) | hfan) | ⟨hv, rfl⟩) | ⟨hh, rfl⟩ := h
  · exact ⟨decide_eq_true hr, rfl⟩
  · unfold reservedModeRows at hmode
    split at hmode
    · next h6 => cases List.mem_singleton.1 hmode; exact ⟨decide_eq_true (BitVec.eq_of_toNat_eq h6), rfl⟩
    · next h7 => cases List.mem_singleton.1 hmode; exact ⟨decide_eq_true (BitVec.eq_of_toNat_eq h7), rfl⟩
    · cases hmode
  · unfold reservedFanRows at hfan
    split at hfan
    · next h6 => cases List.mem_singleton.1 hfan; exact ⟨decide_eq_true (BitVec.eq_of_toNat_eq h6), rfl⟩
    · next h7 => cases List.mem_singleton.1 hfan; exact ⟨decide_eq_true (BitVec.eq_of_toNat_eq h7), rfl⟩
    · cases hfan
  · exact ⟨decide_eq_true (BitVec.eq_of_toNat_eq hv), rfl⟩
  · exact ⟨decide_eq_true hh, rfl⟩

end ReservedRows

section Temperature
variable {s : State} {c d : CommandState}

/-- A transaction depends on its command through the payload alone (R126). -/
theorem transact_congr (h : payloadOf s c = payloadOf s d) : transact c s = transact d s := by
  rw [transact, transact, envelopeOf, envelopeOf, h]

/-- A temperature out of range acts as 24 (R71, R131). -/
theorem transact_fallback (h : ¬(17 < c.targetTemperature ∧ c.targetTemperature < 31)) :
    transact c s = transact { c with targetTemperature := 24 } s := by
  refine transact_congr ?_
  rw [payloadOf, payloadOf, pmEncode, pmEncode, pmB9, pmB9, pmTemp_fallback h]
  rfl

theorem withTemperature_eq_self {t : Int} (h : c.targetTemperature = t) : { c with targetTemperature := t } = c := by
  rw [← h]

theorem inRange_eq_false_iff :
    c.inRange = false ↔ ¬(17 < c.targetTemperature ∧ c.targetTemperature < 31) := by
  simp [CommandState.inRange]

end Temperature

/-- What it is for an instruction to be a row of the command `c` (R58): it is well-formed where a word can carry the
command, its word is that of the command, and its effect is that of ENCODE. -/
structure IsRowOf (c : CommandState) (i : Instr) : Prop where
  wellFormed : c.representable = true → i.wellFormed = true
  word : encodeWord i = encodeCmdw c
  effect : ∀ s, exec i s = transact c s

section CommandRows
variable {c : CommandState}

theorem isRowOf_encode : IsRowOf c (.encode c) := ⟨id, rfl, fun _ => rfl⟩
theorem isRowOf_payloadFrame : IsRowOf c (.payloadFrame c) := ⟨id, rfl, fun _ => rfl⟩
theorem isRowOf_envelopeFrame : IsRowOf c (.envelopeFrame c) := ⟨id, rfl, fun _ => rfl⟩

theorem isRowOf_powerRow : IsRowOf c (powerRow c) := by
  obtain ⟨power, _⟩ := c
  cases power <;> exact ⟨fun h => by simpa [powerRow, Instr.wellFormed] using h, rfl, fun _ => rfl⟩

theorem isRowOf_modeRow : IsRowOf c (modeRow c) := by
  obtain ⟨_, mode, _⟩ := c
  cases mode <;> exact ⟨fun h => by simpa [modeRow, Instr.wellFormed] using h, rfl, fun _ => rfl⟩

theorem isRowOf_fanRow : IsRowOf c (fanRow c) := by
  obtain ⟨_, _, fan, _⟩ := c
  cases fan <;> exact ⟨fun h => by simpa [fanRow, Instr.wellFormed] using h, rfl, fun _ => rfl⟩

theorem isRowOf_vswingRow : IsRowOf c (vswingRow c) := by
  obtain ⟨_, _, _, vswing, _⟩ := c
  cases vswing <;> exact ⟨fun h => by simpa [vswingRow, Instr.wellFormed] using h, rfl, fun _ => rfl⟩

theorem isRowOf_hswingRow : IsRowOf c (hswingRow c) := by
  obtain ⟨_, _, _, _, hswing, _⟩ := c
  cases hswing; exact ⟨fun h => by simpa [hswingRow, Instr.wellFormed] using h, rfl, fun _ => rfl⟩

theorem isRowOf_cleanRow : IsRowOf c (cleanRow c) := by
  obtain ⟨_, _, _, _, _, clean, _⟩ := c
  cases clean <;> exact ⟨fun h => by simpa [cleanRow, Instr.wellFormed] using h, rfl, fun _ => rfl⟩

/-- A row of one temperature is a row of the commands with that temperature. -/
theorem isRowOf_temperature {i : Instr} {t : Int} (ht : c.targetTemperature = t) (hwf : i.wellFormed = true)
    (hword : encodeWord i = encodeCmdw { c with targetTemperature := t })
    (heffect : ∀ s, exec i s = transact { c with targetTemperature := t } s) : IsRowOf c i := by
  rw [withTemperature_eq_self ht] at hword heffect
  exact ⟨fun _ => hwf, hword, heffect⟩

/-- The fallback row is a row of the commands with a temperature out of range (R71). -/
theorem isRowOf_tempFallback (h : ¬(17 < c.targetTemperature ∧ c.targetTemperature < 31)) :
    IsRowOf c (.encodeTempFallback c) where
  wellFormed hrep := by simp [Instr.wellFormed, hrep, inRange_eq_false_iff.2 h]
  word := rfl
  effect _ := (transact_fallback h).symm

theorem isRowOf_tempRow : IsRowOf c (tempRow c) := by
  unfold tempRow
  split
  case h_14 => exact isRowOf_tempFallback (by simp only [imp_false] at *; omega)
  all_goals
    refine isRowOf_temperature (by omega) (decide_eq_true ?_) rfl fun _ => rfl
    omega

/-- Every row of a command is one (R58). -/
theorem isRowOf_of_mem_commandRows {i : Instr} (h : i ∈ commandRows c) : IsRowOf c i := by
  simp only [commandRows, List.mem_cons, List.not_mem_nil, or_false] at h
  rcases h with rfl | rfl | rfl | rfl | rfl | rfl | rfl | rfl | rfl | rfl
  · exact isRowOf_encode
  · exact isRowOf_powerRow
  · exact isRowOf_modeRow
  · exact isRowOf_fanRow
  · exact isRowOf_vswingRow
  · exact isRowOf_hswingRow
  · exact isRowOf_cleanRow
  · exact isRowOf_tempRow
  · exact isRowOf_payloadFrame
  · exact isRowOf_envelopeFrame

end CommandRows

end Sys2Proof.Machine
end

section
/-!
PROOFS. Decoder and encoder are inverse to each other over the whole opcode table (R47, R50, R58): the word of a decoded
instruction is the word it was decoded from, every well-formed instruction is a reading of its word, and the readings
of a word agree with their rows and with each other.
-/

namespace Sys2Proof.Machine

open Sys2Proof.Claims

section Membership
variable {w : Word} {i : Instr} {c : CommandState}

/-- A word that has a reserved row is illegal, and the row is one of its readings (R51). -/
theorem mem_readings_of_mem_reservedRows (h : i ∈ reservedRows w) : i ∈ readings w := by
  have hw : ¬Legal w := fun hlegal => by simp [reservedRows_eq_nil_iff.2 hlegal] at h
  rwa [readings_of_not_legal hw]

/-- The rows of a representable command are readings of its word (R58). -/
theorem mem_readings_of_mem_commandRows (hc : c.representable = true) (h : i ∈ commandRows c) :
    i ∈ readings (encodeWord i) := by
  rwa [(isRowOf_of_mem_commandRows h).word, readings_encodeCmdw hc]

/-- The readings of a word are reserved rows of an illegal word or rows of the command of a legal one (R58). -/
theorem mem_readings_cases (h : i ∈ readings w) :
    (¬Legal w ∧ i ∈ reservedRows w) ∨ (Legal w ∧ i ∈ commandRows (commandAt w)) := by
  by_cases hw : Legal w
  · exact .inr ⟨hw, readings_of_legal hw ▸ h⟩
  · exact .inl ⟨hw, readings_of_not_legal hw ▸ h⟩

theorem tempRow_of_out_of_range (h : c.inRange = false) : tempRow c = .encodeTempFallback c := by
  rw [inRange_eq_false_iff] at h
  unfold tempRow
  split
  case h_14 => rfl
  all_goals omega

/-- The two halves of the test that a row of one field value makes on its operand. -/
theorem and_decide_eq_true {a : Bool} {q : Prop} [Decidable q] (h : (a && decide q) = true) : a = true ∧ q := by
  simpa using h

/-- Every well-formed instruction but RESET is a row of the command or of the word that is its operand (R58). -/
theorem wellFormed_cases (hwf : i.wellFormed = true) (hi : i ≠ .reset) :
    (∃ c, c.representable = true ∧ i ∈ commandRows c) ∨ i ∈ reservedRows (encodeWord i) := by
  cases i with
  | reset => contradiction
  | encode c | payloadFrame c | envelopeFrame c => exact .inl ⟨c, hwf, by simp [commandRows]⟩
  | encodeReservedBits w | encodeVswingReserved7 w | encodeHswingReserved1 w =>
    have hfield := of_decide_eq_true hwf
    exact .inr (by simp [reservedRows, encodeWord, hfield])
  | encodeModeReserved6 w | encodeModeReserved7 w =>
    have hfield := of_decide_eq_true hwf
    exact .inr (by simp [reservedRows, reservedModeRows, encodeWord, hfield])
  | encodeFanReserved6 w | encodeFanReserved7 w =>
    have hfield := of_decide_eq_true hwf
    exact .inr (by simp [reservedRows, reservedFanRows, encodeWord, hfield])
  | encodePowerOff c | encodePowerOn c =>
    obtain ⟨hrep, hfield⟩ := and_decide_eq_true hwf
    exact .inl ⟨c, hrep, by simp [commandRows, powerRow, hfield]⟩
  | encodeModeAuto c | encodeModeCool c | encodeModeDry c | encodeModeHeat c | encodeModeFanOnly c
    | encodeModeMaintenance c =>
    obtain ⟨hrep, hfield⟩ := and_decide_eq_true hwf
    exact .inl ⟨c, hrep, by simp [commandRows, modeRow, hfield]⟩
  | encodeFanAuto c | encodeFanLow c | encodeFanMid c | encodeFanHigh c | encodeFanHiPower c | encodeFanEcono c =>
    obtain ⟨hrep, hfield⟩ := and_decide_eq_true hwf
    exact .inl ⟨c, hrep, by simp [commandRows, fanRow, hfield]⟩
  | encodeVswingSwing c | encodeVswingUp c | encodeVswingMidUp c | encodeVswingMiddle c | encodeVswingMidDown c
    | encodeVswingDown c | encodeVswingStop c =>
    obtain ⟨hrep, hfield⟩ := and_decide_eq_true hwf
    exact .inl ⟨c, hrep, by simp [commandRows, vswingRow, hfield]⟩
  | encodeHswingStop c =>
    obtain ⟨hrep, hfield⟩ := and_decide_eq_true hwf
    exact .inl ⟨c, hrep, by simp [commandRows, hswingRow]⟩
  | encodeCleanOn c | encodeCleanOff c =>
    obtain ⟨hrep, hfield⟩ := and_decide_eq_true hwf
    exact .inl ⟨c, hrep, by simp [commandRows, cleanRow, hfield]⟩
  | encodeTemp18 c | encodeTemp19 c | encodeTemp20 c | encodeTemp21 c | encodeTemp22 c | encodeTemp23 c
    | encodeTemp24 c | encodeTemp25 c | encodeTemp26 c | encodeTemp27 c | encodeTemp28 c | encodeTemp29 c
    | encodeTemp30 c =>
    have hfield := of_decide_eq_true hwf
    exact .inl ⟨c, representable_iff.2 (by omega), by simp [commandRows, tempRow, hfield]⟩
  | encodeTempFallback c =>
    obtain ⟨hrep, hrange⟩ := Bool.and_eq_true_iff.1 hwf
    exact .inl ⟨c, hrep, by simp [commandRows, tempRow_of_out_of_range (by simpa using hrange)]⟩

end Membership

/-- Settles O4: a legal word is the word of its command, and the reserved row that the decoder answers for an illegal
word carries the word. -/
theorem encodeOfDecodeIsTheWord : Obligations.EncodeOfDecodeIsTheWord := by
  unfold Obligations.EncodeOfDecodeIsTheWord
  intro w
  by_cases hw : Legal w
  · rw [decodeWord_of_legal hw]
    exact encodeCmdw_commandAt hw
  · exact (wellFormed_of_mem_reservedRows (decodeWord_mem_reservedRows hw)).2

/-- Settles O5: a well-formed instruction is a row of its operand, and the rows of the operand are the readings of its
word. -/
theorem instructionIsAReadingOfItsWord : Obligations.InstructionIsAReadingOfItsWord := by
  unfold Obligations.InstructionIsAReadingOfItsWord
  refine ⟨fun i hwf hi => ?_, rfl, fun c hc => congrArg some (decodeWord_encodeCmdw hc)⟩
  obtain ⟨c, hc, hrow⟩ | hrow := wellFormed_cases hwf hi
  · exact mem_readings_of_mem_commandRows hc hrow
  · exact mem_readings_of_mem_reservedRows hrow

/-- Settles O6: the rows of a command have the effect of its ENCODE, and the reserved rows of a word take InvalidCommand
with one cause, that of the word. -/
theorem readingsOfAWordHaveOneEffect : Obligations.ReadingsOfAWordHaveOneEffect := by
  unfold Obligations.ReadingsOfAWordHaveOneEffect
  intro w i s hreading
  obtain ⟨hw, hrow⟩ | ⟨hw, hrow⟩ := mem_readings_cases hreading
  · rw [exec_eq_run, exec_eq_run, workOf_of_mem_reservedRows hrow,
      workOf_of_mem_reservedRows (decodeWord_mem_reservedRows hw)]
  · rw [(isRowOf_of_mem_commandRows hrow).effect, decodeWord_of_legal hw]
    rfl

section RowTests
open Sys2Proof.Laws

/-- The encoder writes the bits that each row fixes, over all rows of the table. -/
theorem rowMatch : ∀ i : Instr, RowMatch.Statement i
  | .encode c => RowMatch.encode c
  | .reset => RowMatch.reset
  | .encodeReservedBits w => RowMatch.encodeReservedBits w
  | .encodePowerOff c => RowMatch.encodePowerOff c
  | .encodePowerOn c => RowMatch.encodePowerOn c
  | .encodeModeAuto c => RowMatch.encodeModeAuto c
  | .encodeModeCool c => RowMatch.encodeModeCool c
  | .encodeModeDry c => RowMatch.encodeModeDry c
  | .encodeModeHeat c => RowMatch.encodeModeHeat c
  | .encodeModeFanOnly c => RowMatch.encodeModeFanOnly c
  | .encodeModeMaintenance c => RowMatch.encodeModeMaintenance c
  | .encodeModeReserved6 w => RowMatch.encodeModeReserved6 w
  | .encodeModeReserved7 w => RowMatch.encodeModeReserved7 w
  | .encodeFanAuto c => RowMatch.encodeFanAuto c
  | .encodeFanLow c => RowMatch.encodeFanLow c
  | .encodeFanMid c => RowMatch.encodeFanMid c
  | .encodeFanHigh c => RowMatch.encodeFanHigh c
  | .encodeFanHiPower c => RowMatch.encodeFanHiPower c
  | .encodeFanEcono c => RowMatch.encodeFanEcono c
  | .encodeFanReserved6 w => RowMatch.encodeFanReserved6 w
  | .encodeFanReserved7 w => RowMatch.encodeFanReserved7 w
  | .encodeVswingSwing c => RowMatch.encodeVswingSwing c
  | .encodeVswingUp c => RowMatch.encodeVswingUp c
  | .encodeVswingMidUp c => RowMatch.encodeVswingMidUp c
  | .encodeVswingMiddle c => RowMatch.encodeVswingMiddle c
  | .encodeVswingMidDown c => RowMatch.encodeVswingMidDown c
  | .encodeVswingDown c => RowMatch.encodeVswingDown c
  | .encodeVswingStop c => RowMatch.encodeVswingStop c
  | .encodeVswingReserved7 w => RowMatch.encodeVswingReserved7 w
  | .encodeHswingStop c => RowMatch.encodeHswingStop c
  | .encodeHswingReserved1 w => RowMatch.encodeHswingReserved1 w
  | .encodeCleanOn c => RowMatch.encodeCleanOn c
  | .encodeCleanOff c => RowMatch.encodeCleanOff c
  | .encodeTemp18 c => RowMatch.encodeTemp18 c
  | .encodeTemp19 c => RowMatch.encodeTemp19 c
  | .encodeTemp20 c => RowMatch.encodeTemp20 c
  | .encodeTemp21 c => RowMatch.encodeTemp21 c
  | .encodeTemp22 c => RowMatch.encodeTemp22 c
  | .encodeTemp23 c => RowMatch.encodeTemp23 c
  | .encodeTemp24 c => RowMatch.encodeTemp24 c
  | .encodeTemp25 c => RowMatch.encodeTemp25 c
  | .encodeTemp26 c => RowMatch.encodeTemp26 c
  | .encodeTemp27 c => RowMatch.encodeTemp27 c
  | .encodeTemp28 c => RowMatch.encodeTemp28 c
  | .encodeTemp29 c => RowMatch.encodeTemp29 c
  | .encodeTemp30 c => RowMatch.encodeTemp30 c
  | .encodeTempFallback c => RowMatch.encodeTempFallback c
  | .payloadFrame c => RowMatch.payloadFrame c
  | .envelopeFrame c => RowMatch.envelopeFrame c

end RowTests

section Readings
variable {w : Word} {i : Instr}

/-- A reading of a word is well-formed and is written as that word (R58). -/
theorem wellFormed_of_mem_readings (h : i ∈ readings w) : i.wellFormed = true ∧ encodeWord i = w := by
  obtain ⟨-, hrow⟩ | ⟨hw, hrow⟩ := mem_readings_cases h
  · exact wellFormed_of_mem_reservedRows hrow
  · have hi := isRowOf_of_mem_commandRows hrow
    exact ⟨hi.wellFormed (representable_commandAt w), hi.word.trans (encodeCmdw_commandAt hw)⟩

end Readings

/-- Settles O7: a reading is well-formed and written as its word, so the word passes the test of the reading's row. -/
theorem readingsMatchTheirRows : Obligations.ReadingsMatchTheirRows := by
  unfold Obligations.ReadingsMatchTheirRows
  intro w i hreading
  obtain ⟨hwf, hword⟩ := wellFormed_of_mem_readings hreading
  exact ⟨hwf, by simpa only [hword] using rowMatch i hwf, hword⟩

/-- Settles O8, by evaluating the decoder on the six words. -/
theorem specWordsDecode : Obligations.SpecWordsDecode := by
  unfold Obligations.SpecWordsDecode
  decide

/-- Settles O9: the decoder's test on the width is the only one. -/
theorem commandWordsAreThirtyTwoBits : Obligations.CommandWordsAreThirtyTwoBits := by
  unfold Obligations.CommandWordsAreThirtyTwoBits
  intro nbits w
  refine ⟨fun hnarrow => ?_, fun hwide => ?_⟩
  · rw [decodeTableWord, decodeBits, if_neg (by omega)]
  · rw [decodeTableWord, decodeBits, if_pos hwide]

/-- Settles O50: the ports of an assembled line are those of its operation, and a command that fits its word is what the
decoder reads in it. -/
theorem assembledLinesSelectTheirOperation : Obligations.AssembledLinesSelectTheirOperation := by
  unfold Obligations.AssembledLinesSelectTheirOperation
  refine ⟨fun c hc => ?_, fun c hc => ?_, fun _ _ _ _ _ _ => rfl, fun _ => rfl, rfl⟩
  · rw [assemble, assembleCommand, if_pos hc]
    exact congrArg some (decodeWord_encodeCmdw hc)
  · rw [assemble, assembleCommand, if_neg (by rw [hc]; decide)]

end Sys2Proof.Machine
end

section
/-!
PROOFS. The step (`43_transactions.md` R125 to R127, R132): what each kind of sample selects, and all that a step can
do, said once. What a step keeps, when it enters and leaves FAULT, and what an instruction reads of the earlier state
follow from it.
-/

namespace Sys2Proof.Machine

open Sys2Proof.Claims Sys2Proof.Safety

section Ports
variable {p : PortSample}

/-- `reset` wins over `start` (R132). -/
theorem decodePorts_reset (hreset : p.reset = true) : decodePorts p = some .reset := by
  rw [decodePorts, if_pos hreset]

theorem decodePorts_start (hreset : p.reset = false) (hstart : p.start = true) :
    decodePorts p = some (decodeWord p.cmdw) := by
  simp [decodePorts, hreset, hstart]

theorem decodePorts_noStrobe (hreset : p.reset = false) (hstart : p.start = false) : decodePorts p = none := by
  simp [decodePorts, hreset, hstart]

end Ports

section StepEquations
variable {s : State} {p : PortSample} {rest : List PortSample}

theorem step_of_no_sample (hin : s.inputs = []) : step s = .next s := by
  simp [step, takeSample, hin]

theorem step_of_selected {i : Instr} (hin : s.inputs = p :: rest) (hp : decodePorts p = some i) :
    step s = exec i { s with inputs := rest } := by
  simp [step, takeSample, hin, hp]

theorem step_of_noStrobe (hin : s.inputs = p :: rest) (hp : decodePorts p = none) :
    step s = .next { s with inputs := rest } := by
  simp [step, takeSample, hin, hp]

end StepEquations

section Word
variable {w : Word}

/-- ENCODE of a legal word is the transaction on its command (R126). -/
theorem exec_decodeWord_eq_transact (h : Legal w) (s : State) : exec (decodeWord w) s = transact (commandAt w) s := by
  rw [decodeWord_of_legal h]
  rfl

/-- ENCODE of an illegal word takes InvalidCommand with the cause of the word (R145). -/
theorem exec_decodeWord_eq_rejectCommand (h : ¬Legal w) (s : State) :
    exec (decodeWord w) s = rejectCommand (causeOf w) s := by
  rw [exec_eq_run, workOf_of_mem_reservedRows (decodeWord_mem_reservedRows h)]
  rfl

end Word

/-- All that a step can do, by the sample it takes (R126, R127, R132, R145). -/
inductive StepEffect (s : State) : State → Prop
  /-- There is no sample. -/
  | noSample (hin : s.inputs = []) : StepEffect s s
  /-- The sample has `reset = 1`. -/
  | reset {p rest} (hin : s.inputs = p :: rest) (hreset : p.reset = true) :
      StepEffect s (cleared { s with inputs := rest })
  /-- The sample has neither strobe. -/
  | noStrobe {p rest} (hin : s.inputs = p :: rest) (hreset : p.reset = false) (hstart : p.start = false) :
      StepEffect s { s with inputs := rest }
  /-- The sample has `start = 1`, in FAULT. -/
  | held {p rest} (hin : s.inputs = p :: rest) (hfault : s.status = .fault) (hreset : p.reset = false)
      (hstart : p.start = true) : StepEffect s { s with inputs := rest }
  /-- The sample has `start = 1` and a legal command word. -/
  | result {p rest} (hin : s.inputs = p :: rest) (hready : s.status ≠ .fault) (hreset : p.reset = false)
      (hstart : p.start = true) (hlegal : Legal p.cmdw) :
      StepEffect s (commit (payloadOf s (commandAt p.cmdw)) (envelopeOf s (commandAt p.cmdw)) { s with inputs := rest })
  /-- The sample has `start = 1` and an illegal command word. -/
  | invalid {p rest} (hin : s.inputs = p :: rest) (hready : s.status ≠ .fault) (hreset : p.reset = false)
      (hstart : p.start = true) (hillegal : ¬Legal p.cmdw) :
      StepEffect s (takeInvalidCommand (causeOf p.cmdw) { s with inputs := rest })

section StepCases
variable {s t : State}

/-- What an ENCODE does in a step. -/
theorem stepEffect_of_encode {p : PortSample} {rest : List PortSample} (hin : s.inputs = p :: rest)
    (hreset : p.reset = false) (hstart : p.start = true)
    (h : exec (decodeWord p.cmdw) { s with inputs := rest } = .next t) : StepEffect s t := by
  by_cases hw : Legal p.cmdw
  · rw [exec_decodeWord_eq_transact hw] at h
    obtain ⟨hfault, rfl⟩ | ⟨hready, rfl⟩ := transact_cases h
    · exact .held hin hfault hreset hstart
    · exact .result hin hready hreset hstart hw
  · rw [exec_decodeWord_eq_rejectCommand hw] at h
    obtain ⟨hfault, rfl⟩ | ⟨hready, rfl⟩ := rejectCommand_cases h
    · exact .held hin hfault hreset hstart
    · exact .invalid hin hready hreset hstart hw

/-- A step that answers a state has one of the six effects. -/
theorem stepEffect_of_step (h : step s = .next t) : StepEffect s t := by
  cases hin : s.inputs with
  | nil =>
    rw [step_of_no_sample hin] at h
    cases h
    exact .noSample hin
  | cons p rest =>
    cases hreset : p.reset with
    | true =>
      rw [step_of_selected hin (decodePorts_reset hreset)] at h
      cases h
      exact .reset hin hreset
    | false =>
      cases hstart : p.start with
      | true =>
        rw [step_of_selected hin (decodePorts_start hreset hstart)] at h
        exact stepEffect_of_encode hin hreset hstart h
      | false =>
        rw [step_of_noStrobe hin (decodePorts_noStrobe hreset hstart)] at h
        cases h
        exact .noStrobe hin hreset hstart

end StepCases

/-- Settles O10: the three kinds of sample, in the order of their priority. -/
theorem stepPerformsWhatThePortsSelect : Obligations.StepPerformsWhatThePortsSelect := by
  unfold Obligations.StepPerformsWhatThePortsSelect
  exact fun s p rest hin => ⟨fun hreset => step_of_selected hin (decodePorts_reset hreset),
    fun hreset hstart => step_of_selected hin (decodePorts_start hreset hstart),
    fun hreset hstart => step_of_noStrobe hin (decodePorts_noStrobe hreset hstart)⟩

/-- Settles O11: without a sample nothing is selected. -/
theorem stepWithoutInputChangesNothing : Obligations.StepWithoutInputChangesNothing := by
  unfold Obligations.StepWithoutInputChangesNothing
  exact fun s => step_of_no_sample

/-- Settles O12: ENCODE of a legal word commits the result of its command, and ENCODE of any other word takes
InvalidCommand. -/
theorem encodeRunsThePipeline : Obligations.EncodeRunsThePipeline := by
  unfold Obligations.EncodeRunsThePipeline
  intro s w rest hin hready
  have hstep := step_of_selected hin (decodePorts_start rfl rfl)
  refine ⟨fun c hc => ?_, fun k hk => ?_⟩
  · have hw := decodeCmdw_ok_iff_legal.1 ⟨c, hc⟩
    rw [decodeCmdw_of_legal hw] at hc
    cases hc
    refine ⟨_, ?_, result_commit (s := { s with inputs := rest }) (commandAt w)⟩
    rw [hstep, exec_decodeWord_eq_transact hw]
    exact transact_ready _ hready
  · have hw := decodeCmdw_error_iff_not_legal.1 ⟨k, hk⟩
    rw [decodeCmdw_of_not_legal hw] at hk
    cases hk
    rw [hstep]
    exact exec_decodeWord_of_not_legal hw hready

/-- Settles O13: whatever the sample selects, its operation answers a next state. -/
theorem stepGoesOn : Obligations.StepGoesOn := by
  unfold Obligations.StepGoesOn
  intro s
  cases hin : s.inputs with
  | nil => exact ⟨s, step_of_no_sample hin⟩
  | cons p rest =>
    cases hp : decodePorts p with
    | none => exact ⟨_, step_of_noStrobe hin hp⟩
    | some i =>
      rw [GoesOn, step_of_selected hin hp, exec_eq_run]
      exact run_next _ _

/-- Settles O14: no effect of a step writes the configuration, and each takes the oldest sample, if there is one. -/
theorem stepKeepsConfiguration : Obligations.StepKeepsConfiguration := by
  unfold Obligations.StepKeepsConfiguration
  intro s t hstep
  cases stepEffect_of_step hstep with
  | noSample hin => exact ⟨rfl, by rw [hin]; rfl⟩
  | reset hin | noStrobe hin | held hin | result hin | invalid hin => exact ⟨rfl, by rw [hin]; rfl⟩

/-- Settles O26: of the effects that a step can have in FAULT only RESET changes STATUS, to IDLE. -/
theorem onlyResetLeavesFault : Obligations.OnlyResetLeavesFault := by
  unfold Obligations.OnlyResetLeavesFault
  intro s t hfault hstep hleft
  cases stepEffect_of_step hstep with
  | reset hin hreset => exact ⟨rfl, _, by rw [hin]; rfl, hreset⟩
  | noSample | noStrobe | held => exact absurd hfault hleft
  | result _ hready | invalid _ hready => exact absurd hfault hready

/-- Settles O27: of the effects that a step can have outside FAULT only InvalidCommand gives STATUS FAULT, with the
cause of an illegal word. -/
theorem onlyIllegalWordsFault : Obligations.OnlyIllegalWordsFault := by
  unfold Obligations.OnlyIllegalWordsFault
  intro s t hready hstep hfault
  cases stepEffect_of_step hstep with
  | invalid hin _ hreset hstart hillegal =>
    exact ⟨_, by rw [hin]; rfl, hreset, hstart, hillegal, causeReports_causeOf _⟩
  | noSample | noStrobe | held => exact absurd hfault hready
  | reset | result => cases hfault

section Earlier
variable {s u : State}

/-! The three updates of the latches keep nothing of the earlier latches (R10, R131). -/

theorem commit_congr (hcfg : s.cfg = u.cfg) (hin : s.inputs = u.inputs) (f : PayloadFrame) (e : List Byte) :
    commit f e s = commit f e u := by
  simp only [commit, hcfg, hin]

theorem takeInvalidCommand_congr (hcfg : s.cfg = u.cfg) (hin : s.inputs = u.inputs) (k : BitVec 5) :
    takeInvalidCommand k s = takeInvalidCommand k u := by
  simp only [takeInvalidCommand, hcfg, hin]

theorem resetLatches_congr (hcfg : s.cfg = u.cfg) (hin : s.inputs = u.inputs) : resetLatches s = resetLatches u := by
  simp only [resetLatches, hcfg, hin]

end Earlier

/-- Settles O28: outside FAULT each operation writes all five latches, from its operand and the configuration. -/
theorem earlierResultsHaveNoInfluence : Obligations.EarlierResultsHaveNoInfluence := by
  unfold Obligations.EarlierResultsHaveNoInfluence
  intro s u i hcfg hin hs hu
  rw [exec_eq_run, exec_eq_run]
  cases workOf i with
  | reset => exact congrArg Host.Outcome.next (resetLatches_congr hcfg hin)
  | command c =>
    rw [Work.run, Work.run, transact_ready c hs, transact_ready c hu, payloadOf_congr hcfg, envelopeOf_congr hcfg,
      commit_congr hcfg hin]
  | invalid k =>
    rw [Work.run, Work.run, rejectCommand_ready k hs, rejectCommand_ready k hu, takeInvalidCommand_congr hcfg hin]

/-- Settles O29: a result and a cleared block are written again as they are, and FAULT holds. -/
theorem repeatingAnInstructionChangesNothing : Obligations.RepeatingAnInstructionChangesNothing := by
  unfold Obligations.RepeatingAnInstructionChangesNothing
  intro s t i hexec
  rw [exec_eq_run] at hexec ⊢
  cases hi : workOf i with
  | reset =>
    rw [hi] at hexec
    cases hexec
    rfl
  | command c =>
    rw [hi] at hexec
    obtain ⟨hfault, rfl⟩ | ⟨-, rfl⟩ := transact_cases hexec
    · exact transact_fault c hfault
    · exact transact_ready c (by rw [commit_status]; decide)
  | invalid k =>
    rw [hi] at hexec
    obtain ⟨hfault, rfl⟩ | ⟨-, rfl⟩ := rejectCommand_cases hexec
    · exact rejectCommand_fault k hfault
    · exact rejectCommand_fault k (takeInvalidCommand_status s k)

/-- Settles O30: a temperature out of range acts as 24. -/
theorem outOfRangeTemperatureActsAsTwentyFour : Obligations.OutOfRangeTemperatureActsAsTwentyFour := by
  unfold Obligations.OutOfRangeTemperatureActsAsTwentyFour
  exact fun s c t ht => transact_fallback (c := { c with targetTemperature := t }) (by dsimp only; omega)

/-- Settles O24: State.reset is the power-on state, each of whose fields is its reset value. -/
theorem resetStateHasTheResetValues : Obligations.ResetStateHasTheResetValues := by
  unfold Obligations.ResetStateHasTheResetValues
  exact ⟨rfl, rfl, rfl, rfl, memByte_nil, rfl, rfl⟩

end Sys2Proof.Machine
end

section
/-!
PROOFS. The relations between the latches (`10_state.md` R13, R14, R15, R19): a block without a result meets them when
nothing holds a value, and a completed ENCODE meets them in every configuration, so every step keeps them.
-/

namespace Sys2Proof.Machine

open Sys2Proof.Claims Sys2Proof.Safety

section Invariant
variable {s t : State}

/-- In this hardware an envelope has 184 bytes (R111). -/
theorem fbEnv_length_config (p : Config) (f : PayloadFrame) : (fbEnv p.val f).length = 184 := by
  rw [fbEnv_length, fbBody_fbTrain_length_config]

/-- Without a result the relations say that nothing holds a value, and that CAUSE reports a fault (R13, R14, R15,
R19). -/
theorem latchInvariant_of_withdrawn (hstatus : s.status ≠ .done) (hcause : s.cause ≠ 0#5 ↔ s.status = .fault)
    (hpayload : s.payload = none) (henv : s.env = []) (henvLen : s.envLen = 0#16) : LatchInvariant s where
  canonical := by rw [henv]; rfl
  bounded := by simp [henv, henvLen]
  causeOfFault := hcause
  withdrawn _ := ⟨hpayload, henv, henvLen⟩
  result hdone := absurd hdone hstatus

theorem latchInvariant_cleared (s : State) : LatchInvariant (cleared s) :=
  latchInvariant_of_withdrawn (by simp [cleared]) (by simp [cleared]) rfl rfl rfl

/-- InvalidCommand with a cause meets the relations (R145). -/
theorem latchInvariant_takeInvalidCommand {k : BitVec 5} (hk : k ≠ 0#5) (s : State) :
    LatchInvariant (takeInvalidCommand k s) :=
  latchInvariant_of_withdrawn (by simp) (by simpa using hk) rfl rfl rfl

/-- A completed ENCODE meets the relations: the buffer holds the envelope of a well-shaped payload (R126, R13). -/
theorem latchInvariant_commit (s : State) (c : CommandState) :
    LatchInvariant (commit (payloadOf s c) (envelopeOf s c) s) := by
  have hlength : (envelopeOf s c).length = 184 := fbEnv_length_config s.cfg (payloadOf s c)
  have henvLen : (commit (payloadOf s c) (envelopeOf s c) s).envLen.toNat = 184 := by
    rw [commit_envLen_toNat _ _ (hlength.trans_le (by decide)), hlength]
  refine ⟨memPutAll_sorted _ 0 rfl, ⟨fun x hx => ?_, henvLen.trans_le (by decide)⟩, by simp, fun h => absurd rfl h,
    fun _ => ⟨payloadOf s c, rfl, payloadLayout_frameShape _ _ _, henvLen, fun j => memByte_envelope j _⟩⟩
  obtain ⟨-, hlt⟩ | hnil := mem_memPutAll _ 0 hx
  · omega
  · cases hnil

/-- The relations are about the latches, not about the samples still to come. -/
theorem latchInvariant_withInputs (h : LatchInvariant s) (rest : List PortSample) :
    LatchInvariant { s with inputs := rest } :=
  ⟨h.canonical, h.bounded, h.causeOfFault, h.withdrawn, h.result⟩

/-- Every effect of a step keeps the relations. -/
theorem latchInvariant_of_stepEffect (hinv : LatchInvariant s) (h : StepEffect s t) : LatchInvariant t := by
  cases h with
  | noSample => exact hinv
  | reset => exact latchInvariant_cleared _
  | noStrobe | held => exact latchInvariant_withInputs hinv _
  | result => exact latchInvariant_commit { s with inputs := _ } _
  | invalid _ _ _ _ hillegal => exact latchInvariant_takeInvalidCommand (causeOf_ne_zero_iff.2 hillegal) _

end Invariant

/-- Settles O31: State.reset is a cleared block. -/
theorem latchInvariantAtReset : Obligations.LatchInvariantAtReset := by
  unfold Obligations.LatchInvariantAtReset
  exact latchInvariant_cleared State.reset

/-- Settles O32: each of the effects a step can have keeps the relations. -/
theorem stepKeepsLatchInvariant : Obligations.StepKeepsLatchInvariant := by
  unfold Obligations.StepKeepsLatchInvariant
  exact fun s t hinv hstep => latchInvariant_of_stepEffect hinv (stepEffect_of_step hstep)

end Sys2Proof.Machine
end

section
/-!
PROOFS. What the rows of one field value complete with (`40_parameter_mapper.md` R71, R73 to R75): each is the
transaction on its operand with the row's value in the field, so its result has the data bytes of that command.
-/

namespace Sys2Proof.Machine

open Sys2Proof.Claims

/-- A row completes with the data bytes of the command that it runs (R126). -/
theorem completesWith_of_dataBytes {s : State} {i : Instr} {d : CommandState} {b5 b7 b9 : Byte} (hs : s.status ≠ .fault)
    (hi : workOf i = .command d) (h5 : b5Of s d = b5) (h7 : b7Of s d = b7) (h9 : b9Of s d = b9) :
    CompletesWith i s b5 b7 b9 := by
  rw [← h5, ← h7, ← h9]
  exact completesWith_of_workOf_command hi hs

/-- Settles O16: the power rows are transactions with the row's power value, which only byte 9 reads. -/
theorem powerRowsComplete : Obligations.PowerRowsComplete := by
  unfold Obligations.PowerRowsComplete
  intro s c hs k b9
  and_intros <;> exact completesWith_of_dataBytes hs rfl rfl rfl rfl

/-- Settles O17: the mode rows are transactions with the row's mode, which only byte 9 reads. -/
theorem modeRowsComplete : Obligations.ModeRowsComplete := by
  unfold Obligations.ModeRowsComplete
  intro s c hs k b9
  and_intros <;> exact completesWith_of_dataBytes hs rfl rfl rfl rfl

/-- Settles O18: the fan rows are transactions with the row's fan value, which only byte 7 reads. -/
theorem fanRowsComplete : Obligations.FanRowsComplete := by
  unfold Obligations.FanRowsComplete
  intro s c hs k b7
  and_intros <;> exact completesWith_of_dataBytes hs rfl rfl rfl rfl

/-- Settles O19: the vswing rows are transactions with the row's vswing value, which bytes 5 and 7 read. -/
theorem vswingRowsComplete : Obligations.VswingRowsComplete := by
  unfold Obligations.VswingRowsComplete
  intro s c hs k b5 b7
  and_intros <;> exact completesWith_of_dataBytes hs rfl rfl rfl rfl

/-- Settles O20: the hswing and clean rows are transactions with the row's value, which only byte 5 reads. -/
theorem hswingAndCleanRowsComplete : Obligations.HswingAndCleanRowsComplete := by
  unfold Obligations.HswingAndCleanRowsComplete
  intro s c hs k
  and_intros <;> exact completesWith_of_dataBytes hs rfl rfl rfl rfl

/-- A row that runs with the temperature `t` completes with the code of `t` in byte 9 (R71, R75). -/
theorem completesWith_of_temperature {s : State} {i : Instr} {c : CommandState} {t : Int} {code : Byte}
    (hs : s.status ≠ .fault) (hi : workOf i = .command { c with targetTemperature := t }) (hcode : tempCode t = code) :
    CompletesWith i s (b5Of s c) (b7Of s c)
      (byte9 (codeMode s.cfg.val.code c.mode) (codePower s.cfg.val.code c.power) code) :=
  completesWith_of_dataBytes hs hi rfl rfl (by rw [← hcode]; rfl)

/-- Settles O21: the temperature rows are transactions with the row's temperature, whose code is that of the table, and
the fallback row is one with 24. -/
theorem temperatureRowsComplete : Obligations.TemperatureRowsComplete := by
  unfold Obligations.TemperatureRowsComplete
  intro s c hs k b9 done
  and_intros <;> exact completesWith_of_temperature hs rfl (by decide)

end Sys2Proof.Machine
end

section
/-!
PROOFS. The host's reads in a consistent block (`43_transactions.md` R133): a read has a value exactly where a latch
holds one (R13, R19), and the bytes of the buffer read in order are the whole envelope (R129, R35).
-/

namespace Sys2Proof.Machine

open Sys2Proof.Claims Sys2Proof.Safety

section Reads
variable {s : State} {k j : Nat} {f : PayloadFrame} {b : Byte}

theorem hostReadPayload_outside (hk : 11 ≤ k) : hostReadPayload s k = .error .noSuchIndex :=
  if_neg (Nat.not_lt.2 hk)

theorem hostReadEnv_outside (hj : 362 ≤ j) : hostReadEnv s j = .error .noSuchIndex :=
  if_neg (Nat.not_lt.2 hj)

/-- With a result a read of PAYLOAD gives the byte of the frame (R13). -/
theorem hostReadPayload_of_done (hdone : s.status = .done) (hf : s.payload = some f) (hk : k < 11) :
    hostReadPayload s k = .ok f[k] := by
  simp [hostReadPayload, hdone, hf, hk]

/-- Without a result no read of PAYLOAD has a value (R13). -/
theorem hostReadPayload_of_not_done (hdone : s.status ≠ .done) (hk : k < 11) :
    hostReadPayload s k = .error .noValue := by
  rw [hostReadPayload, if_pos hk]
  split
  · contradiction
  · rfl

/-- With a result a read of ENV below `ENV_LEN` gives the byte that the buffer holds (R19). -/
theorem hostReadEnv_of_held (hj : j < 362) (hheld : s.status = .done ∧ j < s.envLen.toNat)
    (hb : memByte s.env j = some b) : hostReadEnv s j = .ok b := by
  rw [hostReadEnv, envMax, if_pos hj, decide_eq_true hheld, hb]

/-- Any other read of ENV inside its index space has no value (R19). -/
theorem hostReadEnv_of_not_held (hj : j < 362) (hheld : ¬(s.status = .done ∧ j < s.envLen.toNat)) :
    hostReadEnv s j = .error .noValue := by
  rw [hostReadEnv, envMax, if_pos hj, decide_eq_false hheld]

/-- With a result the host reads every byte of the envelope of the payload at its index (R133). -/
theorem hostReadEnv_of_result (hdone : s.status = .done) (henvLen : s.envLen.toNat = 184)
    (henv : ∀ j, memByte s.env j = (fbEnv s.cfg.val f)[j]?) (hb : (fbEnv s.cfg.val f)[j]? = some b) :
    hostReadEnv s j = .ok b := by
  obtain ⟨hj, -⟩ := List.getElem?_eq_some_iff.1 hb
  rw [fbEnv_length_config] at hj
  exact hostReadEnv_of_held (by omega) ⟨hdone, by omega⟩ ((henv j).trans hb)

/-- In a consistent block with a result every index of PAYLOAD reads a value (R13). -/
theorem exists_hostReadPayload_iff (hinv : LatchInvariant s) (hk : k < 11) :
    (∃ b, hostReadPayload s k = .ok b) ↔ s.status = .done := by
  refine ⟨fun ⟨b, hread⟩ => ?_, fun hdone => ?_⟩
  · by_contra hdone
    rw [hostReadPayload_of_not_done hdone hk] at hread
    cases hread
  · obtain ⟨f, hf, -⟩ := hinv.result hdone
    exact ⟨f[k], hostReadPayload_of_done hdone hf hk⟩

/-- In a consistent block with a result every index of ENV below `ENV_LEN` reads a value, and no other (R19). -/
theorem exists_hostReadEnv_iff (hinv : LatchInvariant s) (hj : j < 362) :
    (∃ b, hostReadEnv s j = .ok b) ↔ s.status = .done ∧ j < s.envLen.toNat := by
  refine ⟨fun ⟨b, hread⟩ => ?_, fun hheld => ?_⟩
  · by_contra hheld
    rw [hostReadEnv_of_not_held hj hheld] at hread
    cases hread
  · obtain ⟨f, -, -, henvLen, henv⟩ := hinv.result hheld.1
    have hlt : j < (fbEnv s.cfg.val f).length := by rw [fbEnv_length_config, ← henvLen]; exact hheld.2
    exact ⟨_, hostReadEnv_of_result hheld.1 henvLen henv (List.getElem?_eq_getElem hlt)⟩

end Reads

/-- Settles O33: with a result both latches hold a value at every index of it, and without one neither read has a
value. -/
theorem hostReadsOnlyResults : Obligations.HostReadsOnlyResults := by
  unfold Obligations.HostReadsOnlyResults
  exact fun s hinv => ⟨fun k hk => exists_hostReadPayload_iff hinv hk,
    fun k hk hdone => hostReadPayload_of_not_done hdone hk, fun k => hostReadPayload_outside,
    fun j hj => exists_hostReadEnv_iff hinv hj, fun j hj hheld => hostReadEnv_of_not_held hj hheld,
    fun j => hostReadEnv_outside⟩

section Sequence
variable {ε α : Type}

/-- Reads that give the members of a list at their indices all succeed, with the list in order. -/
theorem map_range_of_getElem? {read : Nat → Except ε α} (l : List α) (h : ∀ j b, l[j]? = some b → read j = .ok b) :
    (List.range l.length).map read = l.map .ok := by
  refine List.ext_getElem (by simp) fun j hj _ => ?_
  rw [List.length_map, List.length_range] at hj
  rw [List.getElem_map, List.getElem_map, List.getElem_range, h j l[j] (List.getElem?_eq_getElem hj)]

/-- Such reads in sequence give the list. -/
theorem mapM_range_of_getElem? {read : Nat → Except ε α} (l : List α) (h : ∀ j b, l[j]? = some b → read j = .ok b) :
    (List.range l.length).mapM read = .ok l := by
  calc (List.range l.length).mapM read
      = ((List.range l.length).map read).mapM id := (List.mapM_map (f := read) (g := id)).symm
    _ = (l.map .ok).mapM id := by rw [map_range_of_getElem? l h]
    _ = l.mapM (fun x => pure (id x)) := List.mapM_map
    _ = .ok l := by rw [List.mapM_pure, List.map_id]; rfl

end Sequence

/-- Settles O35: ENV_LEN is the length of the envelope that the buffer holds, so the reads below it give the whole
envelope, whose length field counts all of it but two bytes. -/
theorem hostSendsTheWholeEnvelope : Obligations.HostSendsTheWholeEnvelope := by
  unfold Obligations.HostSendsTheWholeEnvelope
  intro s hinv hdone
  obtain ⟨f, hf, -, henvLen, henv⟩ := hinv.result hdone
  have hread j b := hostReadEnv_of_result hdone henvLen henv (j := j) (b := b)
  refine ⟨f, hf, ?_, ?_⟩
  · rw [hostEnvelope, if_pos hdone, henvLen, ← fbEnv_length_config s.cfg f]
    exact mapM_range_of_getElem? _ hread
  · rw [hostReadLength, hread 2 _ rfl, hread 3 _ rfl, henvLen]
    refine congrArg Except.ok ?_
    rw [toNat_fbLen_low, toNat_fbLen_high, fbBody_fbTrain_length_config]

end Sys2Proof.Machine
end

section
/-!
PROOFS. What the source's constraints on a configuration give (`30_encoding.md` R53, `41_pulse_encoder.md` R92,
`42_frame_builder.md` R113): the ranges of the timing bases, durations that fit their items, and the source's example
in every configuration; with the sum of a train, and which parameters are refused.
-/

namespace Sys2Proof.Machine

open Sys2Proof.Claims

/-- Settles O41: each scaled base is bounded by the constraints, and a duration compares with the quotient by cross
multiplication. -/
theorem timingBasesInRange : Obligations.TimingBasesInRange := by
  unfold Obligations.TimingBasesInRange
  intro p
  obtain ⟨-, hhm, hhs, hbm, hone, hzero⟩ := p.property
  simp only [peScale_eq] at hhm hhs hbm hone hzero
  omega

/-- Settles O47: a duration of a train is one of the five scaled constants, each at most 65535. -/
theorem everyDurationFits : Obligations.EveryDurationFits := by
  unfold Obligations.EveryDurationFits
  intro p f ⟨hhm, hhs, hbm, hone, hzero⟩ v hv
  have hfits : v ≤ 65535 := by
    rcases mem_fbTrain p hv with rfl | rfl | rfl | rfl | rfl
    · exact hhm
    · exact hhs
    · exact hbm
    · exact hone
    · exact hzero
  exact ⟨hfits, littleEndian_fbDur hfits⟩

section TrainSum
variable (p : Params)

/-- The pulses of a row of bits add up to a mark for each bit, and the space of each value for each bit of that
value. -/
theorem sum_bitPulses (l : List Bool) : (l.flatMap (bitPulses p)).sum =
    l.length * dBitMark p + l.count true * dOneSpace p + l.count false * dZeroSpace p := by
  induction l with
  | nil => simp
  | cons x l ih =>
    rw [List.flatMap_cons, List.sum_append, ih]
    cases x <;> simp [bitPulses, bitSpace] <;> ring

/-- The sum of a train depends on its payload through the number of one-bits alone (R167). -/
theorem sum_fbTrain (f : PayloadFrame) : (fbTrain p f).sum =
    dHdrMark p + dHdrSpace p + 88 * dBitMark p + onesAll f.toList * dOneSpace p +
      (88 - onesAll f.toList) * dZeroSpace p := by
  rw [fbTrain_eq, List.sum_append, sum_bitPulses, payloadBits_length, payloadBits_count_true, payloadBits_count_false]
  simp only [List.sum_cons, List.sum_nil]
  ring

end TrainSum

/-- Settles O48: the payload of a command has 44 one-bits. -/
theorem trainSumIsTheSameForEveryCommand : Obligations.TrainSumIsTheSameForEveryCommand := by
  unfold Obligations.TrainSumIsTheSameForEveryCommand
  intro p c
  rw [sum_fbTrain, pmEncode, onesAll_payloadLayout]
  rfl

section Configure
variable {p : Params}

/-- The source's constraints keep every scaled constant within two bytes (R92, R113). -/
theorem wellFormed_of_conforming (h : p.Conforming) : p.WellFormed := by
  obtain ⟨-, hhm, hhs, hbm, hone, hzero⟩ := h
  exact ⟨by omega, by omega, by omega, by omega, by omega⟩

theorem configure_of_conforming (h : p.Conforming) : configure p = .ok ⟨p, h⟩ := dif_pos h

theorem configure_of_not_conforming (hwf : p.WellFormed) (h : ¬p.Conforming) :
    configure p = .error .nonConformingConfiguration := by
  rw [configure, dif_neg h, if_pos hwf]

theorem configure_of_not_wellFormed (hwf : ¬p.WellFormed) : configure p = .error .illFormedConfiguration := by
  rw [configure, dif_neg (mt wellFormed_of_conforming hwf), if_neg hwf]

end Configure

/-- Settles O49: parameters conform, or are well-formed and break a constraint, or are ill-formed, and each of the three
has its own answer. -/
theorem configureRefusesOtherParameters : Obligations.ConfigureRefusesOtherParameters := by
  unfold Obligations.ConfigureRefusesOtherParameters
  intro p
  by_cases hconf : p.Conforming
  · have hwf := wellFormed_of_conforming hconf
    rw [configure_of_conforming hconf]
    exact ⟨iff_of_true ⟨_, rfl, rfl⟩ hconf, iff_of_false nofun (not_not.2 hwf), iff_of_false nofun fun h => h.2 hconf⟩
  · by_cases hwf : p.WellFormed
    · rw [configure_of_not_conforming hwf hconf]
      exact ⟨iff_of_false nofun hconf, iff_of_false nofun (not_not.2 hwf), iff_of_true rfl ⟨hwf, hconf⟩⟩
    · rw [configure_of_not_wellFormed hwf]
      exact ⟨iff_of_false nofun hconf, iff_of_true rfl hwf, iff_of_false nofun fun h => hwf h.1⟩

section Example
variable (s : State)

/-- The source's example as a frame: the constraints on the codes are on its three data bytes (R53, V1). -/
theorem payloadOf_exampleCommand : payloadOf s exampleCommand = payloadLayout 0xFF#8 0xFF#8 0x8F#8 := by
  obtain ⟨⟨h5, h7, h9⟩, -⟩ := s.cfg.property
  have hb5 : pmB5 s.cfg.val.code exampleCommand = 0xFF#8 := h5
  have hb7 : pmB7 s.cfg.val.code exampleCommand = 0xFF#8 := h7
  have hb9 : pmB9 s.cfg.val.code exampleCommand = 0x8F#8 := h9
  rw [payloadOf, pmEncode, hb5, hb7, hb9]

/-- An envelope in this hardware: its type, its count, its length field of 182, the two header durations, a byte for
each of the other durations, and the trailer (R36, R57, R92). -/
theorem fbEnv_eq_config (p : Config) (f : PayloadFrame) : fbEnv p.val f =
    [0x26#8, 0x00#8, 0xB6#8, 0x00#8, 0x6A#8, 0x35#8] ++
      ((payloadBits f).flatMap (bitPulses p.val)).map (BitVec.ofNat 8) ++ [0x0D#8, 0x05#8] := by
  obtain ⟨-, hhm, hhs, -⟩ := p.property
  have hmark : dHdrMark p.val = 106 := hhm
  have hspace : dHdrSpace p.val = 53 := hhs
  rw [fbEnv, envelopeLayout_eq, fbBody_fbTrain_length_config, fbBody_short fun v => lt_of_mem_fbTrain p, fbTrain_eq,
    hmark, hspace]
  rfl

/-- An envelope in this hardware begins with the same six bytes (R36, R92). -/
theorem fbEnv_head_config (p : Config) (f : PayloadFrame) {j : Nat} {b : Byte}
    (h : [0x26#8, 0x00#8, 0xB6#8, 0x00#8, 0x6A#8, 0x35#8][j]? = some b) : (fbEnv p.val f)[j]? = some b := by
  obtain ⟨hj, -⟩ := List.getElem?_eq_some_iff.1 h
  rwa [fbEnv_eq_config, List.append_assoc, List.getElem?_append_left hj]

/-- The trailer is the last two of the 184 bytes (R36). -/
theorem fbEnv_trailer_config (p : Config) (f : PayloadFrame) (k : Nat) :
    (fbEnv p.val f)[182 + k]? = fixedParams.trailer[k]? := by
  have htrailer := envelopeLayout_trailer (fbBody (fbTrain p.val f)) k
  rwa [fbBody_fbTrain_length_config] at htrailer

end Example

/-- Settles O36: the example word names the example command, whose three data bytes and whose header durations the
source's constraints fix. -/
theorem sourceExampleInEveryConfiguration : Obligations.SourceExampleInEveryConfiguration := by
  unfold Obligations.SourceExampleInEveryConfiguration
  intro s rest hin hready
  have hdecode : decodeWord exampleWord = .encode exampleCommand := by decide
  have hlength := fbEnv_length_config s.cfg (payloadOf s exampleCommand)
  have hread {j b} := hostReadEnv_commit (payloadOf s exampleCommand) { s with inputs := rest }
    (hlength.trans_le (by decide)) (j := j) (b := b)
  refine ⟨commit (payloadOf s exampleCommand) (envelopeOf s exampleCommand) { s with inputs := rest },
    payloadOf s exampleCommand, ?_, rfl, rfl, rfl, ?_, ?_, ?_, hread (fbEnv_trailer_config _ _ 0),
    hread (fbEnv_trailer_config _ _ 1)⟩
  · rw [step_of_selected hin (decodePorts_start rfl rfl), hdecode]
    exact transact_ready exampleCommand hready
  · rw [payloadOf_exampleCommand]
    rfl
  · rw [commit_envLen, envelopeOf, hlength]
  · exact map_range_of_getElem? _ fun j b hb => hread (fbEnv_head_config _ _ hb)

end Sys2Proof.Machine
end
